-- ==== Sys2Proof/Word.lean ====
section
/-!
DEFINITION. The two widths of the block: a byte (00_scope.md R3) and a 16-bit identity register (R3, 10_state.md R15).
-/
namespace Sys2Proof

/-- A byte: 8 bits (R3). All values are unsigned (00_scope.md section 4). -/
abbrev Byte := BitVec 8

/-- A 16-bit word: Tower Number, Tower Mode (R3). -/
abbrev Word16 := BitVec 16

end Sys2Proof
end

