-- ==== Sys2Proof/Config.lean ====
section
/-!
DEFINITION. The configuration record of 00_scope.md R4, its well-formedness `ConfigOK`, the storage collaborator's two
words, and the free values the spec leaves open (opaque: nothing can be proved of them).
-/
namespace Sys2Proof

/-- "A model takes the whole table as a configuration record" (R4): one field per row of its table. The codes are bytes
here, so that a configuration with bit 7 set in a code can be written down and refused (R131). -/
structure Config where
  cmdStartup : Byte
  cmdVersion : Byte
  cmdTowerNumber : Byte
  subGet : Byte
  subSet : Byte
  startupP1 : Byte
  startupP2 : Byte
  startupP3 : Byte
  versionP1 : Byte
  versionP2 : Byte
  versionP3 : Byte
  tnRespP1 : Byte
  towerNumberReset : Word16
  towerModeReset : Word16
  deriving DecidableEq, Repr

/-- `ConfigOK` (R4, D19): the three codes pairwise distinct, each at most `0x7F`, and `SUB_GET != SUB_SET`. -/
def Config.ok (c : Config) : Bool :=
  decide (c.cmdStartup ≠ c.cmdVersion) && decide (c.cmdStartup ≠ c.cmdTowerNumber)
    && decide (c.cmdVersion ≠ c.cmdTowerNumber)
    && decide (c.cmdStartup ≤ 0x7F#8) && decide (c.cmdVersion ≤ 0x7F#8) && decide (c.cmdTowerNumber ≤ 0x7F#8)
    && decide (c.subGet ≠ c.subSet)

/-- The storage collaborator's contents: one word per register (20_memory.md R33, R34). -/
structure Storage where
  towerNumber : Word16
  towerMode : Word16
  deriving DecidableEq, Repr

/-- `TOWER_NUMBER_RESET`, OPEN, no default (R4, D5). DESIGN CHOICE, log 3: a constant without a body, safe. -/
opaque Config.openTowerNumberReset : Word16

/-- `TOWER_MODE_RESET`, OPEN, no default (R4, D5). DESIGN CHOICE, log 3: a constant without a body, safe. -/
opaque Config.openTowerModeReset : Word16

/-- Whether a storage collaborator is present and what it holds at the first reset (U3, R33). DESIGN CHOICE, log 4: a
constant without a body, safe. -/
opaque Config.openStorage : Option Storage

/-- The answer of a `TxTry` beyond the scripted answers: a free value for each attempt (R6, R31, D25). DESIGN CHOICE,
log 6, safe. -/
opaque Config.freeSinkAnswer : Nat → Bool

/-- What a slot of `buf` holds after a reset: unspecified, any value (R21, R140, U13). DESIGN CHOICE, log 8, safe. -/
opaque Config.freeBufByte : Nat → Byte

/-- The defaults of R4's table. PRESUMED, log 2: "spec author's recollection" (93_implementation_defined.md G1 to G4);
unsafe for a claim that rests on them, and no statement but the named examples does. -/
def Config.default : Config where
  cmdStartup := 0x04#8
  cmdVersion := 0x09#8
  cmdTowerNumber := 0x0B#8
  subGet := 0x01#8
  subSet := 0x02#8
  startupP1 := 0x00#8
  startupP2 := 0x00#8
  startupP3 := 0x00#8
  versionP1 := 0x76#8
  versionP2 := 0x01#8
  versionP3 := 0x00#8
  tnRespP1 := 0x01#8
  towerNumberReset := Config.openTowerNumberReset
  towerModeReset := Config.openTowerModeReset

end Sys2Proof
end

