-- ==== Sys2Proof/Syntax.lean ====
section
/-!
DEFINITION. What the block runs: one constructor of `Instr` per row of spec/opcode_table.json (17 rows, 16 mnemonics),
the packet and request values they work on, the places a word of the table can stand, and the textual form of frames.
-/
namespace Sys2Proof

/-- A packet value: the 5-tuple `(cmd, p1, p2, p3, cks)` of bytes (00_scope.md section 4, 30_encoding.md R50). -/
structure Packet where
  cmd : Byte
  p1 : Byte
  p2 : Byte
  p3 : Byte
  cks : Byte
  deriving DecidableEq, Repr

/-- The packet's four data bytes, which the dispatcher latches (10_state.md R16: "a latched copy of the packet
`(cmd, p1, p2, p3)`"). -/
structure Request where
  cmd : Byte
  p1 : Byte
  p2 : Byte
  p3 : Byte
  deriving DecidableEq, Repr

/-- One constructor per row of the opcode table, in the table's order. -/
inductive Instr where
  /-- Row GET_STARTUP (R102). `ack` is bit 7 of the command byte, the parameters are ignored by the handler. -/
  | getStartup (ack : Bool) (p1 p2 p3 : Byte)
  /-- Row GET_VERSION (R103). -/
  | getVersion (ack : Bool) (p1 p2 p3 : Byte)
  /-- Row TOWER_NUMBER.GET (R104): `p1` is `SUB_GET`. -/
  | towerNumberGet (ack : Bool) (p2 p3 : Byte)
  /-- Row TOWER_NUMBER.SET (R105): `p1` is `SUB_SET`, `p2` the new low byte, `p3` the new high byte. -/
  | towerNumberSet (ack : Bool) (p2 p3 : Byte)
  /-- Row UNMATCHED (R106, R60): every packet that matches none of the four rows before it. -/
  | unmatched (ack : Bool) (code : BitVec 7) (p1 p2 p3 : Byte)
  /-- Row +ACK (R107): the acknowledgment epilogue of a request whose bit 7 is set. -/
  | ack (code : BitVec 7) (p1 p2 p3 : Byte)
  /-- Row IDLE (R71). -/
  | idle
  /-- Row STORE (R72). -/
  | store
  /-- Row COMPLETE (R73). -/
  | complete
  /-- Row RESYNC (R74). -/
  | resync
  /-- First row DEFENSIVE (R75): the cursor is 5. -/
  | defensive5
  /-- Second row DEFENSIVE (R75): the cursor is 6 or 7. -/
  | defensive67
  /-- Row STARTUP_PACKET (R59): no operand, its bytes are configuration. -/
  | startupPacket
  /-- Row VERSION_PACKET (R59). -/
  | versionPacket
  /-- Row TOWER_NUMBER_PACKET (R59): `lo` and `hi` are the low and high byte it carries. -/
  | towerNumberPacket (lo hi : Byte)
  /-- Row ACK_POSITIVE (R59, R107). -/
  | ackPositive (code : BitVec 7) (p1 p2 p3 : Byte)
  /-- Row ACK_NEGATIVE (R59, R107). -/
  | ackNegative (code : BitVec 7) (p1 p2 p3 : Byte)
  deriving DecidableEq, Repr

/-- The five kinds of packet the block sends (R59). -/
inductive TxKind where
  | startup
  | version
  | towerNumber
  | ackPositive
  | ackNegative
  deriving DecidableEq, Repr

/-- Where a word of the opcode table stands: the framer's operation select (format POLLSEL), the receive direction of
FRAME5, the epilogue's modifier test, and the transmit direction of FRAME5, by the kind of packet being sent. The same 40
bits can stand in more than one of the last three (log 13), so a word alone does not say which row it is. -/
inductive Channel where
  | poll
  | rx
  | epilogue
  | tx (k : TxKind)
  deriving DecidableEq, Repr

/-- Why a decoder refuses bytes. -/
inductive DecodeError where
  /-- Not one byte (POLLSEL) or not five bytes (FRAME5, R50, R63). -/
  | wrongLength
  /-- The fifth byte is not the exclusive or of the other four (R51, R61). -/
  | badChecksum
  /-- A POLLSEL word has bits above its five. -/
  | notASelector
  /-- The epilogue's row needs bit 7 of the command byte set. -/
  | noAckFlag
  /-- The bytes are not a packet of the kind named by the transmit channel. -/
  | notThisPacket
  deriving DecidableEq, Repr

/-- The framer's operation selector (30_encoding.md R62): is a byte available, the cursor, and the comparison. -/
structure Selector where
  avail : Bool
  pos : BitVec 3
  eq : Bool
  deriving DecidableEq, Repr

/-- The textual form of frames (30_encoding.md R64), as data: the mnemonics of its grammar with their operands (a missing
operand list is zeros, which the writer supplies). -/
inductive FrameText where
  | getStartup (ack : Bool) (p1 p2 p3 : Byte)
  | getVersion (ack : Bool) (p1 p2 p3 : Byte)
  | towerNumberGet (ack : Bool) (p2 p3 : Byte)
  | towerNumberSet (ack : Bool) (v : Word16)
  | raw (cmd p1 p2 p3 : Byte)
  deriving DecidableEq, Repr

end Sys2Proof
end

