-- ==== Sys2Proof/WellFormed.lean ====
section
/-!
DEFINITION. When an instruction is one the encoding tables can express under a configuration: only UNMATCHED carries a
condition, that none of the four rows before it matches (30_encoding.md R55, R60).
-/
namespace Sys2Proof

/-- The packet fields `code` and `p1` match one of the first four rows of R55. The comparison of `p1` is on all 8 bits
(R56). -/
def Config.matchesCommand (c : Config) (code : BitVec 7) (p1 : Byte) : Bool :=
  code.setWidth 8 == c.cmdStartup || code.setWidth 8 == c.cmdVersion
    || (code.setWidth 8 == c.cmdTowerNumber && (p1 == c.subGet || p1 == c.subSet))

/-- Well-formedness of an instruction under a configuration. -/
def Instr.wf (c : Config) : Instr → Bool
  | .getStartup _ _ _ _ => true
  | .getVersion _ _ _ _ => true
  | .towerNumberGet _ _ _ => true
  | .towerNumberSet _ _ _ => true
  | .unmatched _ code p1 _ _ => !c.matchesCommand code p1
  | .ack _ _ _ _ => true
  | .idle => true
  | .store => true
  | .complete => true
  | .resync => true
  | .defensive5 => true
  | .defensive67 => true
  | .startupPacket => true
  | .versionPacket => true
  | .towerNumberPacket _ _ => true
  | .ackPositive _ _ _ _ => true
  | .ackNegative _ _ _ _ => true

end Sys2Proof
end

