-- ==== Sys2Proof/Decode.lean ====
section
/-!
DEFINITION. The decoders (total, rejecting by name) and the encoder, both from 30_encoding.md: the command byte (R52), the
frame and its checksum (R50, R51), the five-way decode of a packet (R55), the framer's operation select (R62), the
packets the block sends (R59), the textual form (R64), and the opcode table's own numbering of a word.
-/
namespace Sys2Proof

/-! ### Fields -/

/-- `ack = cmd[7]` (R52). -/
def ackBit (cmd : Byte) : Bool := cmd.getLsbD 7

/-- `code = cmd & 0x7F`, an 8-bit value with bit 7 clear (R52, R55). -/
def codeOf (cmd : Byte) : Byte := cmd &&& 0x7F#8

/-- The 7-bit command code field, `cmd[6:0]` (R52). -/
def codeField (cmd : Byte) : BitVec 7 := cmd.setWidth 7

/-- A command byte from its two fields (R52): the code with the ack flag in bit 7. -/
def cmdByte (ack : Bool) (code : Byte) : Byte := if ack then code ||| 0x80#8 else code

/-- The checksum of four data bytes: their bitwise exclusive or (R51, R2). The command byte enters as it is, ack flag
included (R53). -/
def checksum (cmd p1 p2 p3 : Byte) : Byte := cmd ^^^ p1 ^^^ p2 ^^^ p3

/-- A packet is valid when its checksum byte is the exclusive or of the four data bytes (R51). -/
def Packet.valid (p : Packet) : Bool := p.cks == checksum p.cmd p.p1 p.p2 p.p3

/-- Wire order of a frame (R35, R50). -/
def Packet.bytes (p : Packet) : List Byte := [p.cmd, p.p1, p.p2, p.p3, p.cks]

/-- The four data bytes of a packet, which the dispatcher works on (R16, R55: `cks` takes no part). -/
def Packet.request (p : Packet) : Request := ⟨p.cmd, p.p1, p.p2, p.p3⟩

/-- BUILD (41_builder.md R90): the frame for four data bytes, the fifth their exclusive or. -/
def build (c p1 p2 p3 : Byte) : Packet := ⟨c, p1, p2, p3, checksum c p1 p2 p3⟩

/-- Operand assembly (R58, R36): `v = {p3, p2}`, high byte first. -/
def wordOf (p2 p3 : Byte) : Word16 := p3 ++ p2

/-- `Lsb = v[7:0]` (10_state.md R15). -/
def lsb (v : Word16) : Byte := v.extractLsb' 0 8

/-- `Msb = v[15:8]` (10_state.md R15). -/
def msb (v : Word16) : Byte := v.extractLsb' 8 8

/-! ### Decoding -/

/-- Decode of a delivered packet (R55): the masked command, and `p1` for TOWER_NUMBER; the rows in the table's
`decode_order`, the first that matches. Total: no encoding is illegal (R60). -/
def decodeRequest (c : Config) (r : Request) : Instr :=
  if codeOf r.cmd = c.cmdStartup then .getStartup (ackBit r.cmd) r.p1 r.p2 r.p3
  else if codeOf r.cmd = c.cmdVersion then .getVersion (ackBit r.cmd) r.p1 r.p2 r.p3
  else if codeOf r.cmd = c.cmdTowerNumber ∧ r.p1 = c.subGet then .towerNumberGet (ackBit r.cmd) r.p2 r.p3
  else if codeOf r.cmd = c.cmdTowerNumber ∧ r.p1 = c.subSet then .towerNumberSet (ackBit r.cmd) r.p2 r.p3
  else .unmatched (ackBit r.cmd) (codeField r.cmd) r.p1 r.p2 r.p3

/-- The epilogue's view of a request: row +ACK. -/
def ackOf (r : Request) : Instr := .ack (codeField r.cmd) r.p1 r.p2 r.p3

/-- The framer's operation select (R62): exhaustive and exclusive. `eq` counts at `pos == 4` only. -/
def decodeSelector (q : Selector) : Instr :=
  if q.avail = false then .idle
  else if q.pos ≤ 3#3 then .store
  else if q.pos = 4#3 then (if q.eq then .complete else .resync)
  else if q.pos = 5#3 then .defensive5
  else .defensive67

/-- The 5-bit layout `{avail, pos[2:0], eq}` of format POLLSEL (R62, D15). -/
def Selector.toByte (q : Selector) : Byte := 0#3 ++ BitVec.ofBool q.avail ++ q.pos ++ BitVec.ofBool q.eq

/-- The selector in the low five bits of a byte. -/
def Selector.ofByte (b : Byte) : Selector := ⟨b.getLsbD 4, b.extractLsb' 1 3, b.getLsbD 0⟩

/-- Exactly five bytes are a frame (R50, R63); its checksum must hold, or it never reaches decode (R51, R61). -/
def decodeFrame : List Byte → Except DecodeError Packet
  | [c, p1, p2, p3, k] => if (⟨c, p1, p2, p3, k⟩ : Packet).valid then .ok ⟨c, p1, p2, p3, k⟩ else .error .badChecksum
  | _ => .error .wrongLength

/-- One byte holding a selector in its low five bits. -/
def decodePollWord : List Byte → Except DecodeError Instr
  | [b] => if b.extractLsb' 5 3 = 0#3 then .ok (decodeSelector (Selector.ofByte b)) else .error .notASelector
  | _ => .error .wrongLength

/-- A sent packet of kind `k`, checked against its row (R59). -/
def decodeSent (c : Config) (k : TxKind) (p : Packet) : Except DecodeError Instr :=
  match k with
  | .startup =>
    if p = build c.cmdStartup c.startupP1 c.startupP2 c.startupP3 then .ok .startupPacket else .error .notThisPacket
  | .version =>
    if p = build c.cmdVersion c.versionP1 c.versionP2 c.versionP3 then .ok .versionPacket else .error .notThisPacket
  | .towerNumber =>
    if p.cmd = c.cmdTowerNumber ∧ p.p1 = c.tnRespP1 then .ok (.towerNumberPacket p.p2 p.p3) else .error .notThisPacket
  | .ackPositive =>
    if ackBit p.cmd then .ok (.ackPositive (codeField p.cmd) p.p1 p.p2 p.p3) else .error .notThisPacket
  | .ackNegative =>
    if ackBit p.cmd then .error .notThisPacket else .ok (.ackNegative (codeField p.cmd) p.p1 p.p2 p.p3)

/-- The decoder: total on any bytes, for each place a word can stand, rejecting by name. -/
def decode (c : Config) (ch : Channel) (bytes : List Byte) : Except DecodeError Instr :=
  match ch with
  | .poll => decodePollWord bytes
  | .rx =>
    match decodeFrame bytes with
    | .ok p => .ok (decodeRequest c p.request)
    | .error e => .error e
  | .epilogue =>
    match decodeFrame bytes with
    | .ok p => if ackBit p.cmd then .ok (ackOf p.request) else .error .noAckFlag
    | .error e => .error e
  | .tx k =>
    match decodeFrame bytes with
    | .ok p => decodeSent c k p
    | .error e => .error e

/-! ### Encoding -/

/-- The encoder: the place a row stands and its bytes, from the same tables (R50, R52, R59, R62). Bits of a selector that
its row leaves open are written 0. -/
def encode (c : Config) : Instr → Channel × List Byte
  | .getStartup a p1 p2 p3 => (.rx, (build (cmdByte a c.cmdStartup) p1 p2 p3).bytes)
  | .getVersion a p1 p2 p3 => (.rx, (build (cmdByte a c.cmdVersion) p1 p2 p3).bytes)
  | .towerNumberGet a p2 p3 => (.rx, (build (cmdByte a c.cmdTowerNumber) c.subGet p2 p3).bytes)
  | .towerNumberSet a p2 p3 => (.rx, (build (cmdByte a c.cmdTowerNumber) c.subSet p2 p3).bytes)
  | .unmatched a code p1 p2 p3 => (.rx, (build (cmdByte a (code.setWidth 8)) p1 p2 p3).bytes)
  | .ack code p1 p2 p3 => (.epilogue, (build (cmdByte true (code.setWidth 8)) p1 p2 p3).bytes)
  | .idle => (.poll, [(Selector.mk false 0#3 false).toByte])
  | .store => (.poll, [(Selector.mk true 0#3 false).toByte])
  | .complete => (.poll, [(Selector.mk true 4#3 true).toByte])
  | .resync => (.poll, [(Selector.mk true 4#3 false).toByte])
  | .defensive5 => (.poll, [(Selector.mk true 5#3 false).toByte])
  | .defensive67 => (.poll, [(Selector.mk true 6#3 false).toByte])
  | .startupPacket => (.tx .startup, (build c.cmdStartup c.startupP1 c.startupP2 c.startupP3).bytes)
  | .versionPacket => (.tx .version, (build c.cmdVersion c.versionP1 c.versionP2 c.versionP3).bytes)
  | .towerNumberPacket lo hi => (.tx .towerNumber, (build c.cmdTowerNumber c.tnRespP1 lo hi).bytes)
  | .ackPositive code p1 p2 p3 => (.tx .ackPositive, (build (cmdByte true (code.setWidth 8)) p1 p2 p3).bytes)
  | .ackNegative code p1 p2 p3 => (.tx .ackNegative, (build (cmdByte false (code.setWidth 8)) p1 p2 p3).bytes)

/-- The frame a text stands for (R64): `+ACK` sets bit 7, `TOWER_NUMBER.SET v` takes `p2 = v[7:0]`, `p3 = v[15:8]`, the
checksum is never written and always computed. -/
def assemble (c : Config) : FrameText → Packet
  | .getStartup a p1 p2 p3 => build (cmdByte a c.cmdStartup) p1 p2 p3
  | .getVersion a p1 p2 p3 => build (cmdByte a c.cmdVersion) p1 p2 p3
  | .towerNumberGet a p2 p3 => build (cmdByte a c.cmdTowerNumber) c.subGet p2 p3
  | .towerNumberSet a v => build (cmdByte a c.cmdTowerNumber) c.subSet (lsb v) (msb v)
  | .raw cmd p1 p2 p3 => build cmd p1 p2 p3

/-! ### The opcode table's numbering -/

/-- The data bytes of a 40-bit table word: `cmd` = bits 39:32, `p1` = 31:24, `p2` = 23:16, `p3` = 15:8 (R50). Bits 7:0,
the checksum, take no part in the decode of a packet (R55). -/
def tableRequest (w : Nat) : Request :=
  ⟨BitVec.ofNat 8 (w / 2 ^ 32), BitVec.ofNat 8 (w / 2 ^ 24), BitVec.ofNat 8 (w / 2 ^ 16), BitVec.ofNat 8 (w / 2 ^ 8)⟩

/-- The instruction of a table word under the default configuration, which the table's numbers are written for. A 40-bit
word is read as the dispatcher reads a delivered packet (R55), a POLLSEL word as the framer's selector (R62, 5 bits, one byte);
another width has no row. The receive direction is the one the block decodes: a row of the transmit direction, and the modifier
+ACK, share their 40 bits with received rows (log 13). -/
def decodeTableWord (nbits w : Nat) : Option Instr :=
  if nbits = 40 then some (decodeRequest Config.default (tableRequest w))
  else if nbits = 8 ∨ nbits = 5 then (decodePollWord [BitVec.ofNat 8 w]).toOption
  else none

end Sys2Proof
end

