-- ==== Sys2Proof/Machine/State.lean ====
section
/-!
DEFINITION. The machine's state as plain data: the registers of 10_state.md section 1, the dispatcher's latched packet and
phase (R16), the configuration (R4, R18) and the environment a model keeps (R18): the answers of source, sink and host, the
storage collaborator, and the total order of observable events (R20, R42). Also the reasons a step can stop.
-/
namespace Sys2Proof.Machine

/-- The framer's five-slot buffer (10_state.md R12): `b0` Command, `b1` Parameter1, `b2` Parameter2, `b3` Parameter3,
`b4` Checksum. -/
structure Buf where
  b0 : Byte
  b1 : Byte
  b2 : Byte
  b3 : Byte
  b4 : Byte
  deriving DecidableEq, Repr

/-- The dispatcher's place inside a `Handle` (R16, "a phase counter"), meaningful while `busy == 1`: before the command's
handler, or before the acknowledgment epilogue. A `Handle` is split into these two steps (R5; DEDUCED, log 1, safe). -/
inductive Phase where
  | handler
  | epilogue
  deriving DecidableEq, Repr

/-- The registers storage can hold (20_memory.md R33, R34). -/
inductive NvReg where
  | towerNumber
  | towerMode
  deriving DecidableEq, Repr

/-- What an observer can see (10_state.md R20), in the one total order of R42. -/
inductive Event where
  /-- `RxPoll` returned this byte and removed it from the source (R30). -/
  | taken (b : Byte)
  /-- The framer delivered this packet (R73, `pkt_valid`). -/
  | deliver (p : Packet)
  /-- One `TxTry` of byte `b` with the sink's answer (R31). -/
  | attempt (b : Byte) (accepted : Bool)
  /-- `NvStore(r, v)` (R33). -/
  | nvStore (r : NvReg) (v : Word16)
  /-- The optional indication of a cursor fault, raised at DEFENSIVE (R75, D18). -/
  | posFault
  /-- The host applied reset (R140). -/
  | reset
  deriving DecidableEq, Repr

/-- The host's `rst` input for one step (R140, R141, R153): low; high instead of the step; or raised inside the step, after
`k` of the step's `TxTry` attempts. DESIGN CHOICE of form, log 7, safe. -/
inductive RstInput where
  | low
  | high
  | during (k : Nat)
  deriving DecidableEq, Repr

/-- The state. -/
structure State where
  /-- The cursor, 3 bits (R10, R11). -/
  pos : BitVec 3
  /-- The frame buffer (R12). -/
  buf : Buf
  /-- Tower Number (R15). -/
  towerNumber : Word16
  /-- Tower Mode (R15, 90_conflicts.md C2). -/
  towerMode : Word16
  /-- The handler-failed flag (R101). -/
  error : Bool
  /-- A `Handle` is in progress (R16, R145). -/
  busy : Bool
  /-- The latched packet (R16, D13). -/
  latch : Request
  /-- The phase (R16). -/
  phase : Phase
  /-- The configuration record (R4); no step changes it (R18). -/
  cfg : Config
  /-- The answers of the coming `RxPoll`s (R6, R30); after the last, every answer is `None` (R144). -/
  rx : List (Option Byte)
  /-- The answers of the coming `TxTry`s (R6, R31); after the last, every answer is a free value. -/
  sink : List Bool
  /-- The storage collaborator, if present (R33). -/
  storage : Option Storage
  /-- The host's `rst` input for the coming steps; after the last, low. -/
  rst : List RstInput
  /-- The observable events so far, oldest first (R20, R42). -/
  trace : List Event
  /-- The model's own counter of free values drawn (log 19). -/
  draws : Nat
  deriving DecidableEq, Repr

/-- Why a step faults: it never does. "No exceptions/panics cross the packet-protocol boundary" (60_exceptions.md R125), and
"The block never halts; it has no stop state" (R144), so there is no constructor. -/
inductive Fault where
  deriving DecidableEq, Repr

/-- Why a step is refused. -/
inductive Refusal where
  /-- An instruction without a meaning yet: raised by an arm of `exec` only; no arm raises it. Safe. -/
  | notModelled (mnemonic : String)
  /-- The configuration violates `ConfigOK`; raised by `step` (R131: "a model should refuse"). Safe. -/
  | configNotOK
  /-- A `Poll` or a second `Handle` started while `busy == 1`; raised by `exec` of a framer operation or a command, never by
  `step` (R131: "a model should refuse"). Safe. -/
  | reentered
  /-- A command, the epilogue or a `Send` asked for while no `Handle` is in progress; raised by `exec`, never by `step`
  (R100: "started by the framer's COMPLETE ... and by nothing else", R142). Safe. -/
  | outsideHandle
  /-- An operation the state does not select (R55, R62, R107: the conditions are exclusive); raised by `exec`, never by `step`. Safe. -/
  | notSelected
  deriving DecidableEq, Repr

/-- A step's outcome on this machine. -/
abbrev Result := Host.Outcome State Fault Refusal

/-- `NvLoad(tower_number)` at reset when storage exists, else the parameter (R33, R140). -/
def resetTowerNumber (storage : Option Storage) (c : Config) : Word16 :=
  match storage with
  | some w => w.towerNumber
  | none => c.towerNumberReset

/-- `NvLoad(tower_mode)` at reset when storage exists, else the parameter (R33, R140). -/
def resetTowerMode (storage : Option Storage) (c : Config) : Word16 :=
  match storage with
  | some w => w.towerMode
  | none => c.towerModeReset

/-- The five slots a reset leaves: unspecified, each a free value (R21, R140, U13; log 8). -/
def freeBuf (n : Nat) : Buf :=
  ⟨Config.freeBufByte n, Config.freeBufByte (n + 1), Config.freeBufByte (n + 2), Config.freeBufByte (n + 3),
    Config.freeBufByte (n + 4)⟩

/-- The machine right after reset (R21, R140), before anything has been placed in its environment. -/
def State.reset : State where
  pos := 0#3
  buf := freeBuf 0
  towerNumber := resetTowerNumber Config.openStorage Config.default
  towerMode := resetTowerMode Config.openStorage Config.default
  error := true
  busy := false
  latch := ⟨0x00#8, 0x00#8, 0x00#8, 0x00#8⟩
  phase := .handler
  cfg := Config.default
  rx := []
  sink := []
  storage := Config.openStorage
  rst := []
  trace := []
  draws := 5

end Sys2Proof.Machine
end

