-- ==== Sys2Proof/Machine/Flags.lean ====
section
/-!
DEFINITION. The block's one flag, `error` (42_dispatcher.md R101), and the acknowledgment's command byte that carries it
(R107). There are no condition codes (10_state.md R19).
-/
namespace Sys2Proof.Machine

/-- `error` when `Handle` starts: 1 (R101). -/
def errorAtStart : Bool := true

/-- `error` after a handler: 0 exactly when every required emission succeeded (R101); `ok` is the handler's conjunction of
its `Send` results. -/
def errorAfter (ok : Bool) : Bool := !ok

/-- The acknowledgment's command byte (R107): the masked command with bit 7 set if `error == 0`, clear if not. -/
def ackCommand (error : Bool) (code : BitVec 7) : Byte := cmdByte (!error) (code.setWidth 8)

end Sys2Proof.Machine
end

