-- ==== Sys2Proof/Machine/Operands.lean ====
section
/-!
DEFINITION. Where each operation's operands come from: the polled byte, the slots of the buffer, the fields of the latched
packet (30_encoding.md R57, R58), and the framer's selector (R62).
-/
namespace Sys2Proof.Machine

/-- What the next `RxPoll` will answer, without taking it: `rx_valid` with `rx_data` (R153). -/
def State.rxPeek (s : State) : Option Byte :=
  match s.rx with
  | some b :: _ => some b
  | none :: _ => none
  | [] => none

/-- Slot `i` of the buffer (00_scope.md section 4, `buf[i]`); there is no sixth slot. -/
def Buf.slot (f : Buf) (i : BitVec 3) : Byte :=
  if i = 0#3 then f.b0 else if i = 1#3 then f.b1 else if i = 2#3 then f.b2 else if i = 3#3 then f.b3 else f.b4

/-- `buf[i] <- b` (00_scope.md section 4), for the five slots. -/
def Buf.put (f : Buf) (i : BitVec 3) (b : Byte) : Buf :=
  if i = 0#3 then ⟨b, f.b1, f.b2, f.b3, f.b4⟩
  else if i = 1#3 then ⟨f.b0, b, f.b2, f.b3, f.b4⟩
  else if i = 2#3 then ⟨f.b0, f.b1, b, f.b3, f.b4⟩
  else if i = 3#3 then ⟨f.b0, f.b1, f.b2, b, f.b4⟩
  else if i = 4#3 then ⟨f.b0, f.b1, f.b2, f.b3, b⟩
  else f

/-- The five slots in wire order (R12). -/
def Buf.toList (f : Buf) : List Byte := [f.b0, f.b1, f.b2, f.b3, f.b4]

/-- `buf[0] ^ buf[1] ^ buf[2] ^ buf[3]`, the framer's side of the check (R73, R74). -/
def Buf.xor4 (f : Buf) : Byte := checksum f.b0 f.b1 f.b2 f.b3

/-- The left shift of RESYNC (R74): simultaneous writes; `b` goes to `buf[3]` and stays in `buf[4]`. -/
def Buf.shifted (f : Buf) (b : Byte) : Buf := ⟨f.b1, f.b2, f.b3, b, b⟩

/-- The packet COMPLETE delivers (R73): the four stored bytes and the received one. -/
def Buf.packet (f : Buf) (b : Byte) : Packet := ⟨f.b0, f.b1, f.b2, f.b3, b⟩

/-- The framer's selector (R62): `eq` is the comparison at `pos == 4`, where alone it is meaningful; elsewhere the buffer is
not read (R13) and the bit is 0 (DESIGN CHOICE, log 12, safe). -/
def State.selector (s : State) : Selector :=
  match s.rxPeek with
  | none => ⟨false, s.pos, false⟩
  | some b => ⟨true, s.pos, decide (s.pos = 4#3) && s.buf.xor4 == b⟩

/-- The operation the state selects next: a framer operation when no `Handle` is in progress (R62, R145), else the command
the latched packet decodes to (R55, R100), else the acknowledgment epilogue (R107). -/
def fetch (s : State) : Instr :=
  if s.busy = false then decodeSelector s.selector
  else match s.phase with
    | .handler => decodeRequest s.cfg s.latch
    | .epilogue => ackOf s.latch

end Sys2Proof.Machine
end

