-- ==== Sys2Proof/Machine/Ops.lean ====
section
/-!
DEFINITION. The operations every meaning is written with: the state updates, the primitives `RxPoll`, `TxTry`, `NvStore`,
`Send`, `Deliver` (00_scope.md section 4), the start and end of `Handle` (R101, R108), the guards of R131, reset (R140,
R141), and the placing of an instruction's word.

The block takes no exception and returns from none (60_exceptions.md R125, R126, R128): "an error changes exactly the state
listed in rule R120 and nothing else, control stays where it was". So there is no exception entry here; a `Send` that fails
answers `false` (R122), and reset is the only asynchronous input.
-/
namespace Sys2Proof.Machine

/-! ### State updates -/

/-- Appends one observable event (R42). -/
def State.emit (s : State) (e : Event) : State := { s with trace := s.trace ++ [e] }

/-- Uses up the answer of one `RxPoll`. -/
def State.popRx (s : State) : State := { s with rx := s.rx.tail }

/-- Uses up one sample of `rst`. -/
def State.popRst (s : State) : State := { s with rst := s.rst.tail }

/-- Uses up the answer of one `TxTry`, scripted or free. -/
def State.popSink (s : State) : State := { s with sink := s.sink.tail, draws := s.draws + 1 }

/-- Writes cursor and buffer together (00_scope.md section 4: "A group of writes in one rule takes effect together"). -/
def State.setFramer (s : State) (pos : BitVec 3) (buf : Buf) : State := { s with pos := pos, buf := buf }

/-- Writes `error`. -/
def State.setError (s : State) (e : Bool) : State := { s with error := e }

/-- `tower_number <- v`, all 16 bits at once (R39). -/
def State.setTowerNumber (s : State) (v : Word16) : State := { s with towerNumber := v }

/-- `busy <- 1` with the packet latched, at the start of its `Handle` (R73, R16, D13). -/
def State.beginHandle (s : State) (r : Request) : State := { s with busy := true, latch := r, phase := .handler }

/-- The place before the acknowledgment epilogue (R107). -/
def State.toEpilogue (s : State) : State := { s with phase := .epilogue }

/-- `busy <- 0`, the end of `Handle` (R108). -/
def State.endHandle (s : State) : State := { s with busy := false, phase := .handler }

/-- Storage keeps what was stored last (R40: "`NvStore` overwrites the stored word"); without storage nothing is kept
(D12; DEDUCED, log 4). -/
def storagePut (w : Storage) (r : NvReg) (v : Word16) : Storage :=
  match r with
  | .towerNumber => ⟨v, w.towerMode⟩
  | .towerMode => ⟨w.towerNumber, v⟩

/-- The storage collaborator's side of `NvStore`. -/
def State.putStored (s : State) (r : NvReg) (v : Word16) : State := { s with storage := s.storage.map fun w => storagePut w r v }

/-! ### Primitives -/

/-- `RxPoll()` (R30): the source's answer; a byte is removed and will not be returned again. -/
def rxPoll (s : State) : Option Byte × State :=
  match s.rxPeek with
  | some b => (some b, s.popRx.emit (.taken b))
  | none => (none, s.popRx)

/-- The sink's answer to the next attempt: scripted, or free (R6, R31; log 6). -/
def State.sinkAnswer (s : State) : Bool :=
  match s.sink with
  | a :: _ => a
  | [] => Config.freeSinkAnswer s.draws

/-- `TxTry(b)` (R31): one attempt, never repeated, its answer independent of every other. -/
def txTry (b : Byte) (s : State) : Bool × State := (s.sinkAnswer, s.popSink.emit (.attempt b s.sinkAnswer))

/-- `NvStore(r, v)` (R33): cannot fail, returns nothing. -/
def nvStore (r : NvReg) (v : Word16) (s : State) : State := (s.putStored r v).emit (.nvStore r v)

/-- The loop of SEND (R91): byte by byte, stop at the first refusal. -/
def sendBytes : List Byte → State → Bool × State
  | [], s => (true, s)
  | b :: bs, s => if (txTry b s).1 then sendBytes bs (txTry b s).2 else (false, (txTry b s).2)

/-- SEND (41_builder.md R91): build and deliver byte by byte; `true` when all five bytes were accepted. -/
def send (c p1 p2 p3 : Byte) (s : State) : Bool × State := sendBytes (build c p1 p2 p3).bytes s

/-- `&&` between two emissions (R100): short-circuit, the right one is not started when the left one failed. -/
def andThen (f g : State → Bool × State) (s : State) : Bool × State :=
  if (f s).1 then g (f s).2 else (false, (f s).2)

/-- `Deliver(pkt)` (R73): `busy <- 1` and the packet is the dispatcher's. -/
def deliver (p : Packet) (s : State) : State := (s.beginHandle p.request).emit (.deliver p)

/-! ### The packets of R59 -/

/-- The Startup packet. -/
def sendStartup (s : State) : Bool × State := send s.cfg.cmdStartup s.cfg.startupP1 s.cfg.startupP2 s.cfg.startupP3 s

/-- The Version packet. -/
def sendVersion (s : State) : Bool × State := send s.cfg.cmdVersion s.cfg.versionP1 s.cfg.versionP2 s.cfg.versionP3 s

/-- A Tower-Number packet that carries the two given bytes. -/
def sendTowerBytes (lo hi : Byte) (s : State) : Bool × State := send s.cfg.cmdTowerNumber s.cfg.tnRespP1 lo hi s

/-- The Tower-Number packet with the current Lsb and Msb. -/
def sendTowerNumber (s : State) : Bool × State := sendTowerBytes (lsb s.towerNumber) (msb s.towerNumber) s

/-! ### Guards -/

/-- A framer operation runs when no `Handle` is in progress (R131, R145) and the state selects it (R62). -/
def pollOp (i : Instr) (f : State → State) (s : State) : Result :=
  if s.busy then .refused .reentered
  else if decodeSelector s.selector = i then .next (f s)
  else .refused .notSelected

/-- A command runs once, on the delivered packet it is the decoding of (R55, R100, R131). -/
def commandOp (i : Instr) (f : State → State) (s : State) : Result :=
  if s.busy = false then .refused .outsideHandle
  else if s.phase = .epilogue then .refused .reentered
  else if decodeRequest s.cfg s.latch = i then .next (f s)
  else .refused .notSelected

/-- The epilogue runs after the handler, on the latched packet (R107). -/
def epilogueOp (i : Instr) (f : State → State) (s : State) : Result :=
  if s.busy = false then .refused .outsideHandle
  else if s.phase = .epilogue ∧ ackOf s.latch = i then .next (f s)
  else .refused .notSelected

/-- A `Send` runs inside a `Handle` only (R100, R142); its result goes to the caller (R91). -/
def sendOp (f : State → Bool × State) (s : State) : Result :=
  if s.busy then .next (f s).2 else .refused .outsideHandle

/-! ### Shapes of meanings -/

/-- A framer operation on the received byte; with no byte nothing but the poll happens (R70, R71). -/
def onPoll (f : Byte → State → State) (s : State) : State :=
  match rxPoll s with
  | (some b, t) => f b t
  | (none, t) => t

/-- The DEFENSIVE operation on a received byte (R75): the byte is dropped, `pos <- 0`, the fault indicated. -/
def defensiveByte (_ : Byte) (s : State) : State := (s.setFramer 0#3 s.buf).emit .posFault

/-- What follows a handler: the epilogue if the request asked for an acknowledgment (R107), else the end of `Handle`
(R108). -/
def afterHandler (ack : Bool) (s : State) : State := if ack then s.toEpilogue else s.endHandle

/-- A handler (R100, R101): `error <- 1`, the command's body, `error` from its result, then what follows. -/
def handler (ack : Bool) (body : State → Bool × State) (s : State) : State :=
  afterHandler ack ((body (s.setError errorAtStart)).2.setError (errorAfter (body (s.setError errorAtStart)).1))

/-! ### Reset -/

/-- RESET (70_reset_and_hazards.md R140), at any time and from any state. It "does not touch the byte source, the byte sink
or the stored words"; the latched packet and the phase are not among what it writes. -/
def applyReset (s : State) : State :=
  { s with
    pos := 0#3
    busy := false
    error := true
    towerNumber := resetTowerNumber s.storage s.cfg
    towerMode := resetTowerMode s.storage s.cfg
    buf := freeBuf s.draws
    draws := s.draws + 5
    trace := s.trace ++ [.reset] }

/-- The events of a step up to its `k`-th `TxTry` attempt: no later attempt is made (R141). -/
def keepAttempts : Nat → List Event → List Event
  | _, [] => []
  | 0, .attempt _ _ :: _ => []
  | k + 1, .attempt b a :: es => .attempt b a :: keepAttempts k es
  | k, .taken b :: es => .taken b :: keepAttempts k es
  | k, .deliver p :: es => .deliver p :: keepAttempts k es
  | k, .nvStore r v :: es => .nvStore r v :: keepAttempts k es
  | k, .posFault :: es => .posFault :: keepAttempts k es
  | k, .reset :: es => .reset :: keepAttempts k es

/-- How many `TxTry` attempts a list of events holds. -/
def countAttempts : List Event → Nat
  | [] => 0
  | .attempt _ _ :: es => countAttempts es + 1
  | .taken _ :: es => countAttempts es
  | .deliver _ :: es => countAttempts es
  | .nvStore _ _ :: es => countAttempts es
  | .posFault :: es => countAttempts es
  | .reset :: es => countAttempts es

/-- The events the step from `s` to `t` added. -/
def newEvents (s t : State) : List Event := t.trace.drop s.trace.length

/-- The step from `s` to `t` abandoned after its `k`-th attempt (R141): the attempts after it are not made, so their answers
are not used; a store event already performed stands. -/
def cutAt (k : Nat) (s t : State) : State :=
  { t with
    trace := s.trace ++ keepAttempts k (newEvents s t)
    sink := s.sink.drop (countAttempts (keepAttempts k (newEvents s t)))
    draws := s.draws + countAttempts (keepAttempts k (newEvents s t)) }

/-- One step with the host's `rst` input around it (R5, R140, R141): low, the step; high, `Reset` instead of it; raised
inside, the step abandoned after `k` attempts and then `Reset`. -/
def underReset (run : State → Result) (s : State) : Result :=
  match s.rst with
  | [] => run s
  | .low :: _ => run s.popRst
  | .high :: _ => .next (applyReset s.popRst)
  | .during k :: _ =>
    match run s.popRst with
    | .next t => .next (applyReset (cutAt k s.popRst t))
    | .fault f => .fault f
    | .refused r => .refused r

/-- A step of the block under a configuration that satisfies `ConfigOK`; any other configuration is refused (R131, D19). -/
def stepWith (execute : Instr → State → Result) (s : State) : Result :=
  if s.cfg.ok then underReset (fun t => execute (fetch t) t) s else .refused .configNotOK

/-! ### Placing a word of the opcode table -/

/-- The buffer and byte that make the framer's comparison come out as `eq`, at `pos == 4`. -/
def placeSelector (q : Selector) (s : State) : State :=
  { s with
    busy := false
    pos := q.pos
    rst := []
    buf := if q.pos = 4#3 then ⟨0x00#8, 0x00#8, 0x00#8, 0x00#8, s.buf.b4⟩ else s.buf
    rx := (if q.avail then some (if q.eq then 0x00#8 else 0x01#8) else none) :: s.rx }

/-- The dispatcher with a request latched, before its handler. -/
def placeRequest (r : Request) (s : State) : State :=
  { s with busy := true, phase := .handler, latch := r, rst := [] }

/-- The word of a table row put where the next step fetches: a packet in the dispatcher's latch (40 bits), or the state of
source, cursor and comparison that a POLLSEL word names (5 bits, one byte). -/
def placeWord (nbits w : Nat) (s : State) : State :=
  if nbits = 40 then placeRequest (tableRequest w) s
  else placeSelector (Selector.ofByte (BitVec.ofNat 8 w)) s

end Sys2Proof.Machine
end

