-- ==== Sys2Proof/Machine/Builder.lean ====
section
/-!
DEFINITION. The packets the block sends (30_encoding.md R59), one meaning per row of the transmit direction: each is SEND
(41_builder.md R91) of the row's four data bytes. A handler or the epilogue calls them; none is fetched (log 15).
-/
namespace Sys2Proof.Machine

/-- STARTUP_PACKET (R59, R91). -/
def execStartupPacket (s : State) : Result := sendOp sendStartup s

/-- VERSION_PACKET (R59, R91). -/
def execVersionPacket (s : State) : Result := sendOp sendVersion s

/-- TOWER_NUMBER_PACKET (R59, R91), carrying the low and high byte it is given. -/
def execTowerNumberPacket (lo hi : Byte) (s : State) : Result := sendOp (sendTowerBytes lo hi) s

/-- ACK_POSITIVE (R59, R107): command byte `code | 0x80`, the request's parameters. -/
def execAckPositive (code : BitVec 7) (p1 p2 p3 : Byte) (s : State) : Result :=
  sendOp (send (ackCommand false code) p1 p2 p3) s

/-- ACK_NEGATIVE (R59, R107): command byte `code`, bit 7 clear, the request's parameters. -/
def execAckNegative (code : BitVec 7) (p1 p2 p3 : Byte) (s : State) : Result :=
  sendOp (send (ackCommand true code) p1 p2 p3) s

end Sys2Proof.Machine
end

