-- ==== Sys2Proof/Machine/Commands.lean ====
section
/-!
DEFINITION. The dispatcher's commands (42_dispatcher.md R102 to R106) and the acknowledgment epilogue (R107), one meaning
per received row of the opcode table.
-/
namespace Sys2Proof.Machine

/-- GET_STARTUP (R102): Startup, then Version, then Tower-Number; a refusal aborts the rest. Parameters ignored. -/
def execGetStartup (ack : Bool) (p1 p2 p3 : Byte) (s : State) : Result :=
  commandOp (.getStartup ack p1 p2 p3) (handler ack (andThen (andThen sendStartup sendVersion) sendTowerNumber)) s

/-- GET_VERSION (R103). Parameters ignored. -/
def execGetVersion (ack : Bool) (p1 p2 p3 : Byte) (s : State) : Result :=
  commandOp (.getVersion ack p1 p2 p3) (handler ack sendVersion) s

/-- TOWER_NUMBER GET (R104): the current Lsb and Msb. -/
def execTowerNumberGet (ack : Bool) (p2 p3 : Byte) (s : State) : Result :=
  commandOp (.towerNumberGet ack p2 p3) (handler ack sendTowerNumber) s

/-- TOWER_NUMBER SET (R105): `tower_number <- {p3, p2} ; NvStore(tower_number, {p3, p2}) ; error <- 0`. -/
def execTowerNumberSet (ack : Bool) (p2 p3 : Byte) (s : State) : Result :=
  commandOp (.towerNumberSet ack p2 p3)
    (handler ack fun t => (true, nvStore .towerNumber (wordOf p2 p3) (t.setTowerNumber (wordOf p2 p3)))) s

/-- UNMATCHED (R106): no state change; `error` keeps the 1 it was given at the start. -/
def execUnmatched (ack : Bool) (code : BitVec 7) (p1 p2 p3 : Byte) (s : State) : Result :=
  commandOp (.unmatched ack code p1 p2 p3) (handler ack fun t => (false, t)) s

/-- The epilogue's emission (R107): only if the original command byte had bit 7 set; the result is discarded. -/
def acknowledge (code : BitVec 7) (p1 p2 p3 : Byte) (s : State) : State :=
  if ackBit s.latch.cmd then (send (ackCommand s.error code) p1 p2 p3 s).2 else s

/-- +ACK (R107), then the end of `Handle` (R108). -/
def execAck (code : BitVec 7) (p1 p2 p3 : Byte) (s : State) : Result :=
  epilogueOp (.ack code p1 p2 p3) (fun t => (acknowledge code p1 p2 p3 t).endHandle) s

end Sys2Proof.Machine
end

