-- ==== Sys2Proof/Machine/Framer.lean ====
section
/-!
DEFINITION. The framer's operations (40_framer.md R71 to R75), one meaning per row of format POLLSEL.
-/
namespace Sys2Proof.Machine

/-- IDLE (R71): `RxPoll()` returned `None`; nothing changes, whatever the cursor (D7). -/
def execIdle (s : State) : Result := pollOp .idle (onPoll fun _ t => t) s

/-- STORE (R72): `buf[pos] <- b ; pos <- pos + 1`. -/
def execStore (s : State) : Result :=
  pollOp .store (onPoll fun b t => t.setFramer (t.pos + 1#3) (t.buf.put t.pos b)) s

/-- COMPLETE (R73): `buf[4] <- b ; pos <- 0`, and the packet is delivered: `busy <- 1`. -/
def execComplete (s : State) : Result :=
  pollOp .complete (onPoll fun b t => deliver (t.buf.packet b) (t.setFramer 0#3 (t.buf.put 4#3 b))) s

/-- RESYNC (R74): the buffer shifts left by one, `pos <- 0` (90_conflicts.md C1: to 0, not to 4). -/
def execResync (s : State) : Result := pollOp .resync (onPoll fun b t => t.setFramer 0#3 (t.buf.shifted b)) s

/-- DEFENSIVE at `pos == 5` (R75). -/
def execDefensive5 (s : State) : Result := pollOp .defensive5 (onPoll defensiveByte) s

/-- DEFENSIVE at `pos == 6` or `7` (R75): "every out-of-range value behaves the same" (R11). -/
def execDefensive67 (s : State) : Result := pollOp .defensive67 (onPoll defensiveByte) s

end Sys2Proof.Machine
end

