-- ==== Sys2Proof/Machine/Dispatch.lean ====
section
/-!
DEFINITION. One arm per row of the opcode table.
-/
namespace Sys2Proof.Machine

def exec (i : Instr) (s : State) : Host.Outcome State Fault Refusal :=
  match i with
  | .getStartup ack p1 p2 p3 => Sys2Proof.Machine.execGetStartup ack p1 p2 p3 s
  | .getVersion ack p1 p2 p3 => Sys2Proof.Machine.execGetVersion ack p1 p2 p3 s
  | .towerNumberGet ack p2 p3 => Sys2Proof.Machine.execTowerNumberGet ack p2 p3 s
  | .towerNumberSet ack p2 p3 => Sys2Proof.Machine.execTowerNumberSet ack p2 p3 s
  | .unmatched ack code p1 p2 p3 => Sys2Proof.Machine.execUnmatched ack code p1 p2 p3 s
  | .ack code p1 p2 p3 => Sys2Proof.Machine.execAck code p1 p2 p3 s
  | .idle => Sys2Proof.Machine.execIdle s
  | .store => Sys2Proof.Machine.execStore s
  | .complete => Sys2Proof.Machine.execComplete s
  | .resync => Sys2Proof.Machine.execResync s
  | .defensive5 => Sys2Proof.Machine.execDefensive5 s
  | .defensive67 => Sys2Proof.Machine.execDefensive67 s
  | .startupPacket => Sys2Proof.Machine.execStartupPacket s
  | .versionPacket => Sys2Proof.Machine.execVersionPacket s
  | .towerNumberPacket lo hi => Sys2Proof.Machine.execTowerNumberPacket lo hi s
  | .ackPositive code p1 p2 p3 => Sys2Proof.Machine.execAckPositive code p1 p2 p3 s
  | .ackNegative code p1 p2 p3 => Sys2Proof.Machine.execAckNegative code p1 p2 p3 s

end Sys2Proof.Machine
end

