-- ==== Sys2Proof/Machine/Step.lean ====
section
/-!
DEFINITION. One step of the block: the operation the state selects, under the host's reset input; and the placing of an
instruction's word where that step fetches it.
-/
namespace Sys2Proof.Machine

/-- One step (00_scope.md R5): the selected operation, or `Reset`. -/
def step (s : State) : Host.Outcome State Fault Refusal := stepWith exec s

/-- `s` with the word of a table row where the next step fetches (log 18). -/
def State.withFetchWord (s : State) (nbits w : Nat) : State := placeWord nbits w s

end Sys2Proof.Machine
end

