-- ==== Sys2Proof/Machine/Observe.lean ====
section
/-!
DEFINITION. What an observer outside the block sees (10_state.md R20), computed from the trace of events; and what a
sequence of `TxTry` attempts looks like (41_builder.md R91).
-/
namespace Sys2Proof.Machine

/-- The bytes taken from the source, in order (R20 f). -/
def takenBytes (es : List Event) : List Byte :=
  es.filterMap fun e => match e with
    | .taken b => some b
    | _ => none

/-- The packets delivered by the framer, in order (R20 c). -/
def delivered (es : List Event) : List Packet :=
  es.filterMap fun e => match e with
    | .deliver p => some p
    | _ => none

/-- The `TxTry` attempts with their answers, in order (R20 b). -/
def attempts (es : List Event) : List (Byte × Bool) :=
  es.filterMap fun e => match e with
    | .attempt b a => some (b, a)
    | _ => none

/-- The bytes the sink accepted, in order (R20 a, R43). -/
def accepted (es : List Event) : List Byte := ((attempts es).filter (·.2)).map (·.1)

/-- The `NvStore` events, in order (R20 e). -/
def stores (es : List Event) : List (NvReg × Word16) :=
  es.filterMap fun e => match e with
    | .nvStore r v => some (r, v)
    | _ => none

/-- The events since the last reset. -/
def sinceReset (es : List Event) : List Event :=
  es.foldl (fun seen e => if e = .reset then [] else seen ++ [e]) []

/-- The consecutive blocks of five bytes of a byte sequence (20_memory.md R37); a last incomplete block is none. -/
def blocks : List Byte → List Packet
  | a :: b :: c :: d :: e :: rest => ⟨a, b, c, d, e⟩ :: blocks rest
  | _ => []

/-- `t` is `s` after attempting `bytes` one by one up to the first refusal (R91), and `ok` says that none was refused: the
attempts are those of a first part of `bytes`, all answers but the last are `true`, scripted answers come from the sink's
list, and nothing of the block changes. -/
def Emits (bytes : List Byte) (s : State) (ok : Bool) (t : State) : Prop :=
  ∃ answers : List Bool,
    answers.length ≤ bytes.length
    ∧ t = { s with
        sink := s.sink.drop answers.length
        draws := s.draws + answers.length
        trace := s.trace ++ (bytes.zip answers).map fun x => Event.attempt x.1 x.2 }
    ∧ (∀ a ∈ answers.dropLast, a = true)
    ∧ (ok = true ↔ answers.length = bytes.length ∧ ∀ a ∈ answers, a = true)
    ∧ (ok = false → answers.getLast? = some false)
    ∧ answers.take s.sink.length = s.sink.take answers.length

end Sys2Proof.Machine
end

