-- ==== Sys2Proof/Machine/Signals.lean ====
section
/-!
DEFINITION. The block's signals (70_reset_and_hazards.md R153) as a step from `s` to `t` shows them. They carry the
primitives one to one (D2); one step may hold several `tx_try` pulses, since cycles are not modelled (R150, log 20).
-/
namespace Sys2Proof.Machine

/-- `rx_take == rx_valid && !busy` (R153). The formula does not look at `rst`: with `rst` high it can be 1 although no byte
is taken (R140 leaves the source alone), a point the spec leaves open (DESIGN CHOICE, log 21, unsafe there). -/
def State.rxTake (s : State) : Bool := s.rxPeek.isSome && !s.busy

/-- The outputs of R153 during a step. -/
structure Signals where
  rxTake : Bool
  /-- `tx_try` pulses, each with `tx_data` and the `tx_accept` sampled. -/
  txTries : List (Byte × Bool)
  /-- `pkt_valid` with the packet's five bytes. -/
  pkt : Option Packet
  busy : Bool
  towerNumber : Word16
  towerMode : Word16
  /-- `nv_store` with `nv_wdata`. -/
  nvStore : Option Word16
  posFault : Bool
  deriving DecidableEq, Repr

/-- The signals of a step from `s` to `t`. -/
def signals (s t : State) : Signals where
  rxTake := s.rxTake
  txTries := attempts (newEvents s t)
  pkt := (delivered (newEvents s t)).head?
  busy := s.busy
  towerNumber := s.towerNumber
  towerMode := s.towerMode
  nvStore := (stores (newEvents s t)).head?.map (·.2)
  posFault := (newEvents s t).contains .posFault

end Sys2Proof.Machine
end

