-- ==== Sys2Proof/Machine/Transaction.lean ====
section
/-!
DEFINITION. The two entry points as the spec writes them, each one function: `Poll` (40_framer.md R70) and `Handle`
(42_dispatcher.md R100). The step function does not use them: they are the transaction level (D1) that statements compare
the steps with.
-/
namespace Sys2Proof.Machine

/-- `Poll()` (R70), with the `Deliver` of its packet (R73). -/
def poll (s : State) : Option Packet × State :=
  match rxPoll s with
  | (none, t) => (none, t)
  | (some b, t) =>
    if t.pos ≤ 3#3 then (none, { t with buf := t.buf.put t.pos b, pos := t.pos + 1#3 })
    else if t.pos = 4#3 then
      if t.buf.b0 ^^^ t.buf.b1 ^^^ t.buf.b2 ^^^ t.buf.b3 = b then
        (some ⟨t.buf.b0, t.buf.b1, t.buf.b2, t.buf.b3, b⟩,
          { t with
            buf := ⟨t.buf.b0, t.buf.b1, t.buf.b2, t.buf.b3, b⟩
            pos := 0#3
            busy := true
            latch := ⟨t.buf.b0, t.buf.b1, t.buf.b2, t.buf.b3⟩
            phase := .handler
            trace := t.trace ++ [.deliver ⟨t.buf.b0, t.buf.b1, t.buf.b2, t.buf.b3, b⟩] })
      else (none, { t with buf := ⟨t.buf.b1, t.buf.b2, t.buf.b3, b, b⟩, pos := 0#3 })
    else (none, { t with pos := 0#3, trace := t.trace ++ [.posFault] })

/-- The five-way select of `Handle` (R100), on the state after `error <- 1`. -/
def handleSelect (r : Request) (s : State) : State :=
  if r.cmd &&& 0x7F#8 = s.cfg.cmdStartup then
    if (sendStartup s).1 then
      if (sendVersion (sendStartup s).2).1 then
        { (sendTowerNumber (sendVersion (sendStartup s).2).2).2 with
          error := !(sendTowerNumber (sendVersion (sendStartup s).2).2).1 }
      else { (sendVersion (sendStartup s).2).2 with error := true }
    else { (sendStartup s).2 with error := true }
  else if r.cmd &&& 0x7F#8 = s.cfg.cmdVersion then { (sendVersion s).2 with error := !(sendVersion s).1 }
  else if r.cmd &&& 0x7F#8 = s.cfg.cmdTowerNumber ∧ r.p1 = s.cfg.subGet then
    { (sendTowerNumber s).2 with error := !(sendTowerNumber s).1 }
  else if r.cmd &&& 0x7F#8 = s.cfg.cmdTowerNumber ∧ r.p1 = s.cfg.subSet then
    { nvStore .towerNumber (r.p3 ++ r.p2) { s with towerNumber := r.p3 ++ r.p2 } with error := false }
  else s

/-- The acknowledgment part of `Handle` (R100, R107). -/
def handleAck (r : Request) (s : State) : State :=
  if r.cmd.getLsbD 7 then
    if s.error = false then (send (r.cmd &&& 0x7F#8 ||| 0x80#8) r.p1 r.p2 r.p3 s).2
    else (send (r.cmd &&& 0x7F#8) r.p1 r.p2 r.p3 s).2
  else s

/-- `Handle(cmd, p1, p2, p3, cks)` (R100), from `error <- 1` to `busy <- 0`. -/
def handle (r : Request) (s : State) : State :=
  { handleAck r (handleSelect r { s with error := true }) with busy := false }

end Sys2Proof.Machine
end

