-- ==== Sys2Proof/Safety.lean ====
section
/-!
DEFINITION. What counts as a safe run, in the terms the statements use: a running machine, the invariants every step
keeps, and the end of a finite run.
-/
namespace Sys2Proof.Machine

/-- What must hold for the rules to apply (R143) and no reset input is waiting: `ConfigOK`, `rst` low. -/
def Running (s : State) : Prop := s.cfg.ok = true ∧ s.rst = []

/-- The cursor is in its documented range (10_state.md R11). -/
def CursorLegal (s : State) : Prop := s.pos ≤ 4#3

/-- "never returns a packet with a failing checksum" (40_framer.md R76). -/
def DeliveredValid (s : State) : Prop := ∀ p ∈ delivered s.trace, p.valid = true

/-- Frame alignment (20_memory.md R37, 10_state.md R13): since the last reset the cursor is the number of bytes taken modulo
5, the slots below the cursor are the last bytes taken, in order, and the packets delivered are exactly the valid ones
among the consecutive blocks of five bytes. -/
def Aligned (s : State) : Prop :=
  s.pos.toNat = (takenBytes (sinceReset s.trace)).length % 5
  ∧ s.buf.toList.take s.pos.toNat
      = (takenBytes (sinceReset s.trace)).drop ((takenBytes (sinceReset s.trace)).length - s.pos.toNat)
  ∧ delivered (sinceReset s.trace) = (blocks (takenBytes (sinceReset s.trace))).filter (·.valid)

/-- A `Handle` in progress is about the packet delivered last (R100), and is before its epilogue only if that packet asked
for an acknowledgment (R107). -/
def HandleInOrder (s : State) : Prop :=
  s.busy = true →
    (delivered s.trace).getLast?.map Packet.request = some s.latch
    ∧ (s.phase = .epilogue → ackBit s.latch.cmd = true)

/-- A framer operation of 30_encoding.md R62. -/
def isFramerOp (i : Instr) : Bool :=
  match i with
  | .idle | .store | .complete | .resync | .defensive5 | .defensive67 => true
  | .getStartup _ _ _ _ | .getVersion _ _ _ _ | .towerNumberGet _ _ _ | .towerNumberSet _ _ _ => false
  | .unmatched _ _ _ _ _ | .ack _ _ _ _ | .startupPacket | .versionPacket | .towerNumberPacket _ _ => false
  | .ackPositive _ _ _ _ | .ackNegative _ _ _ _ => false

/-- A command of 30_encoding.md R55. -/
def isCommand (i : Instr) : Bool :=
  match i with
  | .getStartup _ _ _ _ | .getVersion _ _ _ _ | .towerNumberGet _ _ _ | .towerNumberSet _ _ _ => true
  | .unmatched _ _ _ _ _ => true
  | .idle | .store | .complete | .resync | .defensive5 | .defensive67 | .ack _ _ _ _ | .startupPacket => false
  | .versionPacket | .towerNumberPacket _ _ | .ackPositive _ _ _ _ | .ackNegative _ _ _ _ => false

/-- A sent packet of 30_encoding.md R59. -/
def isSentPacket (i : Instr) : Bool :=
  match i with
  | .startupPacket | .versionPacket | .towerNumberPacket _ _ | .ackPositive _ _ _ _ | .ackNegative _ _ _ _ => true
  | .getStartup _ _ _ _ | .getVersion _ _ _ _ | .towerNumberGet _ _ _ | .towerNumberSet _ _ _ => false
  | .unmatched _ _ _ _ _ | .ack _ _ _ _ | .idle | .store | .complete | .resync | .defensive5 | .defensive67 => false

/-- The end of a finite run (70_reset_and_hazards.md R144): the receive stream given is exhausted and `busy == 0`. -/
def finished (s : State) : Bool := s.rx.all (·.isNone) && !s.busy

end Sys2Proof.Machine
end

