-- ==== Sys2Proof/Certificates/Slice0/Obligations.lean ====
section
/-!
DEFINITION. The statements for the provers, one `def Obligations.<Name> : Prop` each, from the numbered rules of spec/.
Where a statement speaks of `cfg.ok` and `rst = []` it assumes what 70_reset_and_hazards.md R143 asks for and that no reset
is waiting; every other hypothesis is the condition under which the spec selects the operation.
-/
open Sys2Proof Sys2Proof.Machine

/-! ### Encoding -/

/-- Decode and encode agree, for every row, operand and configuration (30_encoding.md sections 1 to 7). -/
def Obligations.DecodeInvertsEncode : Prop :=
  ∀ (c : Config) (i : Instr), c.ok = true → i.wf c = true → decode c (encode c i).1 (encode c i).2 = .ok i

/-- The other direction, on the receive stream: a frame that decodes is the encoding of what it decodes to, and that is
well formed. No bit of a received frame is dropped. -/
def Obligations.ReceivedFrameReencodes : Prop :=
  ∀ (c : Config) (bs : List Byte) (i : Instr), c.ok = true → decode c .rx bs = .ok i →
    i.wf c = true ∧ encode c i = (.rx, bs)

/-- R55: the five cases, each with its condition; exactly one holds; `cks` takes no part. -/
def Obligations.DecodeIsFiveWay : Prop :=
  ∀ (c : Config) (p : Packet), c.ok = true →
    (decodeRequest c p.request = .getStartup (ackBit p.cmd) p.p1 p.p2 p.p3 ↔ p.cmd &&& 0x7F#8 = c.cmdStartup)
    ∧ (decodeRequest c p.request = .getVersion (ackBit p.cmd) p.p1 p.p2 p.p3 ↔ p.cmd &&& 0x7F#8 = c.cmdVersion)
    ∧ (decodeRequest c p.request = .towerNumberGet (ackBit p.cmd) p.p2 p.p3 ↔
        p.cmd &&& 0x7F#8 = c.cmdTowerNumber ∧ p.p1 = c.subGet)
    ∧ (decodeRequest c p.request = .towerNumberSet (ackBit p.cmd) p.p2 p.p3 ↔
        p.cmd &&& 0x7F#8 = c.cmdTowerNumber ∧ p.p1 = c.subSet)
    ∧ (decodeRequest c p.request = .unmatched (ackBit p.cmd) (codeField p.cmd) p.p1 p.p2 p.p3 ↔
        p.cmd &&& 0x7F#8 ≠ c.cmdStartup ∧ p.cmd &&& 0x7F#8 ≠ c.cmdVersion
        ∧ ¬(p.cmd &&& 0x7F#8 = c.cmdTowerNumber ∧ (p.p1 = c.subGet ∨ p.p1 = c.subSet)))
    ∧ ([decodeRequest c p.request == .getStartup (ackBit p.cmd) p.p1 p.p2 p.p3,
        decodeRequest c p.request == .getVersion (ackBit p.cmd) p.p1 p.p2 p.p3,
        decodeRequest c p.request == .towerNumberGet (ackBit p.cmd) p.p2 p.p3,
        decodeRequest c p.request == .towerNumberSet (ackBit p.cmd) p.p2 p.p3,
        decodeRequest c p.request == .unmatched (ackBit p.cmd) (codeField p.cmd) p.p1 p.p2 p.p3].count true = 1)
    ∧ ∀ k : Byte, decodeRequest c (Packet.request { p with cks := k }) = decodeRequest c p.request

/-- R56: the sub-selector comparison is on all 8 bits of `p1`. -/
def Obligations.SubSelectorComparesEveryBit : Prop :=
  ∀ (c : Config) (r : Request), c.ok = true → r.cmd &&& 0x7F#8 = c.cmdTowerNumber →
    (decodeRequest c r = .towerNumberGet (ackBit r.cmd) r.p2 r.p3 ↔ ∀ j < 8, r.p1.getLsbD j = c.subGet.getLsbD j)
    ∧ (decodeRequest c r = .towerNumberSet (ackBit r.cmd) r.p2 r.p3 ↔ ∀ j < 8, r.p1.getLsbD j = c.subSet.getLsbD j)

/-- R61 and R50: a frame whose checksum fails, and bytes that are not five, never reach decode; a frame whose checksum holds
always does (R60). -/
def Obligations.OnlyValidFramesDecode : Prop :=
  ∀ (c : Config) (bs : List Byte),
    (bs.length ≠ 5 → decode c .rx bs = .error .wrongLength)
    ∧ ∀ a p1 p2 p3 k : Byte, bs = [a, p1, p2, p3, k] →
      (a ^^^ p1 ^^^ p2 ^^^ p3 ≠ k → decode c .rx bs = .error .badChecksum)
      ∧ (a ^^^ p1 ^^^ p2 ^^^ p3 = k → decode c .rx bs = .ok (decodeRequest c ⟨a, p1, p2, p3⟩))

/-- R51: when a frame is valid, in both forms; for four data bytes exactly one checksum is; the all-zero frame is; and no
step delivers an invalid packet. -/
def Obligations.ValidFrameIsXorZero : Prop :=
  (∀ p : Packet, p.valid = true ↔ p.cks = p.cmd ^^^ p.p1 ^^^ p.p2 ^^^ p.p3)
  ∧ (∀ p : Packet, p.valid = true ↔ p.cmd ^^^ p.p1 ^^^ p.p2 ^^^ p.p3 ^^^ p.cks = 0x00#8)
  ∧ (∀ c p1 p2 p3 : Byte, ∃! k : Byte, (Packet.mk c p1 p2 p3 k).valid = true)
  ∧ (Packet.mk 0x00#8 0x00#8 0x00#8 0x00#8 0x00#8).valid = true
  ∧ ∀ s t : State, step s = .next t → ∀ p ∈ delivered (newEvents s t), p.valid = true

/-- R52: the two fields of the command byte, decoded independently; every code comes with either value of `ack`. -/
def Obligations.CommandByteFields : Prop :=
  (∀ cmd : Byte, (ackBit cmd = true ↔ cmd &&& 0x80#8 = 0x80#8) ∧ codeOf cmd = cmd &&& 0x7F#8
    ∧ codeOf cmd = (codeField cmd).setWidth 8 ∧ cmd = cmdByte (ackBit cmd) (codeOf cmd))
  ∧ ∀ (a : Bool) (code : BitVec 7), ∃ cmd : Byte, ackBit cmd = a ∧ codeField cmd = code

/-- R53: the checksum covers the command byte as received, so toggling the ack flag toggles bit 7 of the checksum and
nothing else. -/
def Obligations.AckFlagIsInTheChecksum : Prop :=
  ∀ cmd p1 p2 p3 : Byte,
    (build cmd p1 p2 p3).cks = cmd ^^^ p1 ^^^ p2 ^^^ p3
    ∧ (build (cmd ^^^ 0x80#8) p1 p2 p3).cks = (build cmd p1 p2 p3).cks ^^^ 0x80#8

/-- R62: the operation a `Poll` runs, selected by the pair (byte available, cursor) and at `pos == 4` by the comparison; the
conditions are exhaustive and exclusive; and the 5-bit layout of the selector. -/
def Obligations.SelectorTable : Prop :=
  (∀ s : State, s.busy = false →
    (fetch s = .idle ↔ s.rxPeek = none)
    ∧ (fetch s = .store ↔ ∃ b, s.rxPeek = some b ∧ (s.pos = 0#3 ∨ s.pos = 1#3 ∨ s.pos = 2#3 ∨ s.pos = 3#3))
    ∧ (fetch s = .complete ↔ ∃ b, s.rxPeek = some b ∧ s.pos = 4#3
        ∧ s.buf.b0 ^^^ s.buf.b1 ^^^ s.buf.b2 ^^^ s.buf.b3 = b)
    ∧ (fetch s = .resync ↔ ∃ b, s.rxPeek = some b ∧ s.pos = 4#3
        ∧ s.buf.b0 ^^^ s.buf.b1 ^^^ s.buf.b2 ^^^ s.buf.b3 ≠ b)
    ∧ (fetch s = .defensive5 ↔ ∃ b, s.rxPeek = some b ∧ s.pos = 5#3)
    ∧ (fetch s = .defensive67 ↔ ∃ b, s.rxPeek = some b ∧ (s.pos = 6#3 ∨ s.pos = 7#3))
    ∧ isFramerOp (fetch s) = true)
  ∧ ∀ q : Selector, q.toByte.getLsbD 4 = q.avail ∧ q.toByte.extractLsb' 1 3 = q.pos ∧ q.toByte.getLsbD 0 = q.eq
      ∧ q.toByte.extractLsb' 5 3 = 0#3 ∧ Selector.ofByte q.toByte = q

/-- Six of the spec's example frames (95_test_vectors.md sections 1 and 2) and one selector word, built from the layout of
30_encoding.md section 7, decode to the instructions they stand for. The frames rest on the default configuration (PRESUMED,
log 2). -/
def Obligations.SpecWordsDecode : Prop :=
  decode Config.default .rx [0x04#8, 0x00#8, 0x00#8, 0x00#8, 0x04#8] = .ok (.getStartup false 0x00#8 0x00#8 0x00#8)
  ∧ decode Config.default .rx [0x89#8, 0xAA#8, 0xBB#8, 0xCC#8, 0x54#8] = .ok (.getVersion true 0xAA#8 0xBB#8 0xCC#8)
  ∧ decode Config.default .rx [0x8B#8, 0x01#8, 0x55#8, 0xAA#8, 0x75#8] = .ok (.towerNumberGet true 0x55#8 0xAA#8)
  ∧ decode Config.default .rx [0x8B#8, 0x02#8, 0x34#8, 0x12#8, 0xAF#8] = .ok (.towerNumberSet true 0x34#8 0x12#8)
  ∧ decode Config.default .rx [0xFF#8, 0x11#8, 0x22#8, 0x33#8, 0xFF#8]
      = .ok (.unmatched true 0x7F#7 0x11#8 0x22#8 0x33#8)
  ∧ decode Config.default (.tx .towerNumber) [0x0B#8, 0x01#8, 0x34#8, 0x12#8, 0x2C#8]
      = .ok (.towerNumberPacket 0x34#8 0x12#8)
  ∧ decode Config.default .poll [0x19#8] = .ok .complete

/-- 30_encoding.md section 9: every text stands for a valid frame, and that frame decodes to the command the text names. -/
def Obligations.TextAssemblesToItsCommand : Prop :=
  ∀ (c : Config) (x : FrameText), c.ok = true →
    (assemble c x).valid = true
    ∧ decode c .rx (assemble c x).bytes = .ok (match x with
      | .getStartup a p1 p2 p3 => .getStartup a p1 p2 p3
      | .getVersion a p1 p2 p3 => .getVersion a p1 p2 p3
      | .towerNumberGet a p2 p3 => .towerNumberGet a p2 p3
      | .towerNumberSet a v => .towerNumberSet a (v.extractLsb' 0 8) (v.extractLsb' 8 8)
      | .raw cmd p1 p2 p3 => decodeRequest c ⟨cmd, p1, p2, p3⟩)

/-! ### The step -/

/-- A step runs the operation the state selects: with `rst` low, `step` is `exec` of the fetched instruction, at the state
whose `rst` sample has been used up. -/
def Obligations.StepRunsFetched : Prop :=
  ∀ s : State, s.cfg.ok = true →
    (s.rst = [] → step s = exec (fetch s) s)
    ∧ ∀ r, s.rst = .low :: r → step s = exec (fetch s) { s with rst := r }

/-- What the dispatcher fetches is what the decoder reads: with a delivered valid packet before its handler, the fetched
instruction is the decoding of the packet's five bytes. -/
def Obligations.FetchIsDecode : Prop :=
  ∀ (s : State) (p : Packet), s.busy = true → s.phase = .handler → p.valid = true → s.latch = p.request →
    decode s.cfg .rx p.bytes = .ok (fetch s)

/-- The block never halts and never traps: under a configuration that satisfies `ConfigOK` every step answers a next state,
whatever the environment does (60_exceptions.md section 2, 70_reset_and_hazards.md section 1). -/
def Obligations.EveryStepAnswers : Prop :=
  ∀ s : State, s.cfg.ok = true → ∃ t, step s = .next t

/-- The two conditions a model refuses (60_exceptions.md section 6): `configNotOK` for a configuration that violates
`ConfigOK`, and `reentered` for a `Poll` or a second `Handle` while busy; and that the hardware, here `step`, cannot do the
second. The model's choice (log 10, DESIGN CHOICE), and no rule, are the clause that a command the state does not select is
refused as `notSelected`, and the last clause where it speaks of `notSelected` and `outsideHandle`. -/
def Obligations.RefusedConditions : Prop :=
  (∀ s : State, s.cfg.ok = false → step s = .refused .configNotOK)
  ∧ (∀ (i : Instr) (s : State), s.busy = true → isFramerOp i = true → exec i s = .refused .reentered)
  ∧ (∀ (i : Instr) (s : State), s.busy = true → isCommand i = true → s.phase = .epilogue →
      exec i s = .refused .reentered)
  ∧ (∀ (i : Instr) (s : State), s.busy = true → isCommand i = true → s.phase = .handler → fetch s ≠ i →
      exec i s = .refused .notSelected)
  ∧ ∀ s : State, step s ≠ .refused .reentered ∧ step s ≠ .refused .notSelected ∧ step s ≠ .refused .outsideHandle

/-- R140: reset, from any state: what it writes, and that source, sink and stored words are not touched. `buf` is left
unspecified, so nothing is said of it. -/
def Obligations.ResetWrites : Prop :=
  ∀ (s : State) (r : List RstInput), s.cfg.ok = true → s.rst = .high :: r →
    ∃ t, step s = .next t ∧ t.pos = 0#3 ∧ t.busy = false ∧ t.error = true
      ∧ t.towerNumber = (match s.storage with | some w => w.towerNumber | none => s.cfg.towerNumberReset)
      ∧ t.towerMode = (match s.storage with | some w => w.towerMode | none => s.cfg.towerModeReset)
      ∧ t.rx = s.rx ∧ t.sink = s.sink ∧ t.storage = s.storage ∧ t.cfg = s.cfg ∧ t.rst = r
      ∧ t.trace = s.trace ++ [.reset]

/-- Reset inside a step, after `k` of its attempts (70_reset_and_hazards.md section 1): the first `k` attempts stand and no
further one is made, the answers not used stay the sink's, the register write is overwritten by the reset value, and the
frame being received is discarded. The model's choice (log 7, DESIGN CHOICE) are the sample `during k` and the clause that
every store event of the step stands for every `k`, 0 included: the spec speaks of one "already performed". -/
def Obligations.ResetInsideHandle : Prop :=
  ∀ (s : State) (k : Nat) (r : List RstInput), s.cfg.ok = true → s.rst = .during k :: r →
    ∃ u t, exec (fetch s) { s with rst := r } = .next u ∧ step s = .next t
      ∧ attempts (newEvents s t) = (attempts (newEvents s u)).take k
      ∧ stores (newEvents s t) = stores (newEvents s u)
      ∧ takenBytes (newEvents s t) = takenBytes (newEvents s u)
      ∧ t.trace.getLast? = some .reset
      ∧ t.sink = s.sink.drop (attempts (newEvents s t)).length
      ∧ t.storage = u.storage ∧ t.rx = u.rx
      ∧ t.pos = 0#3 ∧ t.busy = false ∧ t.error = true
      ∧ t.towerNumber = (match u.storage with | some w => w.towerNumber | none => u.cfg.towerNumberReset)
      ∧ t.towerMode = (match u.storage with | some w => w.towerMode | none => u.cfg.towerModeReset)

/-- The values after reset (10_state.md section 6); `buf` is unspecified and nothing is said of it. With storage present the
reset values of the identity registers are what it returns (70_reset_and_hazards.md section 1). The last clause rests on the
default configuration (PRESUMED, log 2). -/
def Obligations.ResetState : Prop :=
  State.reset.pos = 0#3 ∧ State.reset.busy = false ∧ State.reset.error = true
  ∧ State.reset.towerNumber = (match State.reset.storage with
      | some w => w.towerNumber
      | none => State.reset.cfg.towerNumberReset)
  ∧ State.reset.towerMode = (match State.reset.storage with
      | some w => w.towerMode
      | none => State.reset.cfg.towerModeReset)
  ∧ State.reset.cfg.ok = true

/-! ### The framer -/

/-- R71, IDLE: with no byte available, any cursor, nothing changes but that the source has answered one poll. -/
def Obligations.IdleChangesNothing : Prop :=
  ∀ s : State, s.busy = false → s.rxPeek = none → exec .idle s = .next { s with rx := s.rx.tail }

/-- R72, STORE: one slot and the cursor are written, the other four slots keep their values. -/
def Obligations.StoreWritesOneSlot : Prop :=
  ∀ (s : State) (b : Byte) (r : List (Option Byte)), s.busy = false → s.rx = some b :: r → s.pos ≤ 3#3 →
    exec .store s = .next { s with
      rx := r, buf := s.buf.put s.pos b, pos := s.pos + 1#3, trace := s.trace ++ [.taken b] }
    ∧ (s.pos + 1#3).toNat = s.pos.toNat + 1
    ∧ (s.buf.put s.pos b).slot s.pos = b
    ∧ ∀ j : BitVec 3, j ≤ 4#3 → j ≠ s.pos → (s.buf.put s.pos b).slot j = s.buf.slot j

/-- R73, COMPLETE: `buf[4] <- b`, `pos <- 0`, the packet is delivered and `busy <- 1`; `buf[0..3]` unchanged. -/
def Obligations.CompleteDelivers : Prop :=
  ∀ (s : State) (b : Byte) (r : List (Option Byte)), s.busy = false → s.rx = some b :: r → s.pos = 4#3 →
    s.buf.b0 ^^^ s.buf.b1 ^^^ s.buf.b2 ^^^ s.buf.b3 = b →
    exec .complete s = .next { s with
      rx := r, pos := 0#3, busy := true, phase := .handler
      buf := { s.buf with b4 := b }
      latch := ⟨s.buf.b0, s.buf.b1, s.buf.b2, s.buf.b3⟩
      trace := s.trace ++ [.taken b, .deliver ⟨s.buf.b0, s.buf.b1, s.buf.b2, s.buf.b3, b⟩] }

/-- R74, RESYNC: the buffer shifts left by one, the candidate goes to `buf[3]` and stays in `buf[4]`, `pos <- 0`; nothing
else, so the dispatcher is not told and `error` is not touched (90_conflicts.md C1). -/
def Obligations.ResyncShifts : Prop :=
  ∀ (s : State) (b : Byte) (r : List (Option Byte)), s.busy = false → s.rx = some b :: r → s.pos = 4#3 →
    s.buf.b0 ^^^ s.buf.b1 ^^^ s.buf.b2 ^^^ s.buf.b3 ≠ b →
    exec .resync s = .next { s with
      rx := r, pos := 0#3, trace := s.trace ++ [.taken b]
      buf := ⟨s.buf.b1, s.buf.b2, s.buf.b3, b, b⟩ }

/-- DEFENSIVE (40_framer.md section 2): the byte is taken and dropped, `pos <- 0`, `buf` unchanged, the fault indicated; the
same for every out-of-range value. That the byte is dropped is one of the two readings that 93_implementation_defined.md U4
leaves open under fault injection, the only way to such a cursor: the model's choice (log 11, DESIGN CHOICE, unsafe there). -/
def Obligations.DefensiveDropsByte : Prop :=
  ∀ (s : State) (b : Byte) (r : List (Option Byte)), s.busy = false → s.rx = some b :: r →
    (s.pos = 5#3 →
      exec .defensive5 s = .next { s with rx := r, pos := 0#3, trace := s.trace ++ [.taken b, .posFault] })
    ∧ (s.pos = 6#3 ∨ s.pos = 7#3 →
      exec .defensive67 s = .next { s with rx := r, pos := 0#3, trace := s.trace ++ [.taken b, .posFault] })

/-- The frame of the framer's operations (10_state.md section 1): no identity register, `error`, storage, sink answer or
configuration changes, nothing is attempted or stored, and the dispatcher's registers change at COMPLETE only. -/
def Obligations.FramerFrame : Prop :=
  ∀ (i : Instr) (s t : State), isFramerOp i = true → exec i s = .next t →
    t.towerNumber = s.towerNumber ∧ t.towerMode = s.towerMode ∧ t.error = s.error ∧ t.cfg = s.cfg
    ∧ t.sink = s.sink ∧ t.storage = s.storage ∧ t.rst = s.rst ∧ t.draws = s.draws ∧ t.rx = s.rx.tail
    ∧ attempts (newEvents s t) = [] ∧ stores (newEvents s t) = []
    ∧ (i ≠ .complete → t.busy = s.busy ∧ t.latch = s.latch ∧ t.phase = s.phase)
    ∧ (i = .idle ∨ i = .defensive5 ∨ i = .defensive67 → t.buf = s.buf)

/-- R70: one step with `busy == 0` is `Poll` as the spec writes it and runs exactly one framer operation, a packet comes
from COMPLETE only, at most one byte is taken; with `busy == 1` no framer operation runs. -/
def Obligations.PollMatchesPseudocode : Prop :=
  (∀ s : State, Running s → s.busy = false →
    step s = .next (poll s).2
    ∧ isFramerOp (fetch s) = true
    ∧ delivered (newEvents s (poll s).2) = (poll s).1.toList
    ∧ ((poll s).1.isSome = true ↔ fetch s = .complete)
    ∧ (takenBytes (newEvents s (poll s).2)).length ≤ 1)
  ∧ ∀ s : State, s.busy = true →
    isFramerOp (fetch s) = false ∧ ∀ i, isFramerOp i = true → exec i s = .refused .reentered

/-- The cursor stays in its documented range in every step: a byte never finds it at 5, 6 or 7 unless something outside the
rules put it there (10_state.md section 2). -/
def Obligations.StepKeepsCursorLegal : Prop :=
  ∀ s t : State, CursorLegal s → step s = .next t → CursorLegal t ∧ .posFault ∉ newEvents s t

/-- No step delivers a packet whose checksum fails (40_framer.md section 3). -/
def Obligations.StepKeepsDeliveredValid : Prop :=
  ∀ s t : State, DeliveredValid s → step s = .next t → DeliveredValid t

/-- Every step keeps the frame alignment: cursor, stored slots and delivered packets are those of the consecutive blocks of
five bytes since the last reset. -/
def Obligations.StepKeepsAlignment : Prop :=
  ∀ s t : State, Aligned s → step s = .next t → Aligned t

/-- The invariants hold after reset. -/
def Obligations.InvariantsHoldAtReset : Prop :=
  CursorLegal State.reset ∧ DeliveredValid State.reset ∧ Aligned State.reset ∧ HandleInOrder State.reset

/-- R37: in any run from reset, under any configuration, source, sink, storage and reset input, the packets delivered since
the last reset are exactly the valid ones among the consecutive blocks of five bytes taken since, and the alignment is the
number of bytes taken modulo 5. -/
def Obligations.RunDeliversItsValidBlocks : Prop :=
  ∀ (n : Nat) (c : Config) (rx : List (Option Byte)) (sink : List Bool) (storage : Option Storage)
    (rst : List RstInput) (t : State),
    Sys2Proof.core.run n { State.reset with cfg := c, rx := rx, sink := sink, storage := storage, rst := rst } = .next t →
    t.pos.toNat = (takenBytes (sinceReset t.trace)).length % 5
    ∧ delivered (sinceReset t.trace) = (blocks (takenBytes (sinceReset t.trace))).filter fun p =>
        p.cmd ^^^ p.p1 ^^^ p.p2 ^^^ p.p3 == p.cks

/-- R77: from `pos == 0` the five bytes of a built frame, with any number of idle polls between them, deliver exactly that
packet at the fifth byte, and nothing before it. -/
def Obligations.FreshFramerDeliversBuiltFrame : Prop :=
  ∀ (s : State) (c a d e : Byte) (polls rest : List (Option Byte)), Running s → s.busy = false → s.pos = 0#3 →
    polls.filterMap id = [c, a, d, e, c ^^^ a ^^^ d ^^^ e] → polls.getLast? ≠ some none → s.rx = polls ++ rest →
    (∃ t, Sys2Proof.core.run polls.length s = .next t ∧ t.busy = true ∧ t.rx = rest ∧ t.pos = 0#3
      ∧ delivered (newEvents s t) = [build c a d e])
    ∧ ∀ k < polls.length, ∃ u, Sys2Proof.core.run k s = .next u ∧ u.busy = false ∧ delivered (newEvents s u) = []

/-- R78: one corrupted byte in an aligned frame costs that frame and nothing else: its fifth byte leaves `pos == 0` with
nothing delivered, and the next aligned frame is received normally. Two corrupted bytes can cancel, and then the altered
frame is delivered. -/
def Obligations.CorruptedByteCostsOneFrame : Prop :=
  (∀ (s : State) (good bad next : Packet) (rest : List (Option Byte)) (j : Nat), Running s → s.busy = false →
    s.pos = 0#3 → good.valid = true → next.valid = true → j < 5 →
    (∀ i < 5, (bad.bytes[i]? = good.bytes[i]?) ↔ i ≠ j) →
    s.rx = bad.bytes.map some ++ next.bytes.map some ++ rest →
    (∃ u, Sys2Proof.core.run 5 s = .next u ∧ u.pos = 0#3 ∧ u.busy = false ∧ delivered (newEvents s u) = []
      ∧ u.error = s.error)
    ∧ ∃ t, Sys2Proof.core.run 10 s = .next t ∧ delivered (newEvents s t) = [next])
  ∧ ∃ good bad : Packet, good.valid = true
      ∧ ((List.range 5).filter fun i => bad.bytes[i]? != good.bytes[i]?).length = 2
      ∧ ∀ (s : State) (rest : List (Option Byte)), Running s → s.busy = false → s.pos = 0#3 →
        s.rx = bad.bytes.map some ++ rest →
        ∃ t, Sys2Proof.core.run 5 s = .next t ∧ delivered (newEvents s t) = [bad]

/-! ### The builder -/

/-- R90, BUILD: the four bytes as given, then their exclusive or; always a valid frame. -/
def Obligations.BuildIsTheFrame : Prop :=
  ∀ c p1 p2 p3 : Byte,
    (build c p1 p2 p3).bytes = [c, p1, p2, p3, c ^^^ p1 ^^^ p2 ^^^ p3] ∧ (build c p1 p2 p3).valid = true

/-- R91, SEND: byte by byte up to the first refused byte, `k + 1` attempts when byte `k` is the first refused and 5 when none
is; `true` exactly when all five were accepted; no register changes. -/
def Obligations.SendStopsAtFirstRefusal : Prop :=
  ∀ (c p1 p2 p3 : Byte) (s : State),
    Emits [c, p1, p2, p3, c ^^^ p1 ^^^ p2 ^^^ p3] s (send c p1 p2 p3 s).1 (send c p1 p2 p3 s).2
    ∧ 1 ≤ (attempts (newEvents s (send c p1 p2 p3 s).2)).length
    ∧ (attempts (newEvents s (send c p1 p2 p3 s).2)).length ≤ 5

/-- The five kinds of sent packet, each a `Send` of its four data bytes (30_encoding.md section 5), inside a `Handle`; and
outside one no packet is sent. Running sent packets as instructions is the model's reading (log 15, DEDUCED), and their
refusal as `outsideHandle` is the model's choice (log 10, DESIGN CHOICE). -/
def Obligations.SentPacketsAreTheirRows : Prop :=
  ∀ (s : State) (lo hi p1 p2 p3 : Byte) (code : BitVec 7),
    (s.busy = true →
      exec .startupPacket s = .next (send s.cfg.cmdStartup s.cfg.startupP1 s.cfg.startupP2 s.cfg.startupP3 s).2
      ∧ exec .versionPacket s = .next (send s.cfg.cmdVersion s.cfg.versionP1 s.cfg.versionP2 s.cfg.versionP3 s).2
      ∧ exec (.towerNumberPacket lo hi) s = .next (send s.cfg.cmdTowerNumber s.cfg.tnRespP1 lo hi s).2
      ∧ exec (.ackPositive code p1 p2 p3) s = .next (send (code.setWidth 8 ||| 0x80#8) p1 p2 p3 s).2
      ∧ exec (.ackNegative code p1 p2 p3) s = .next (send (code.setWidth 8) p1 p2 p3 s).2)
    ∧ (s.busy = false →
      exec .startupPacket s = .refused .outsideHandle ∧ exec .versionPacket s = .refused .outsideHandle
      ∧ exec (.towerNumberPacket lo hi) s = .refused .outsideHandle
      ∧ exec (.ackPositive code p1 p2 p3) s = .refused .outsideHandle
      ∧ exec (.ackNegative code p1 p2 p3) s = .refused .outsideHandle)

/-- What sending a packet does to the state: 1 to 5 attempts of the packet's own bytes, which are those of its encoding, and
no register changes. -/
def Obligations.SentPacketFrame : Prop :=
  ∀ (i : Instr) (s t : State), isSentPacket i = true → exec i s = .next t →
    ∃ ok, Emits (encode s.cfg i).2 s ok t

/-- R92: in every step, what is attempted is a sequence of runs, each the bytes of a valid frame up to its end or up to and
including the first refused byte. -/
def Obligations.OnlyWholeFramesOrCutOnes : Prop :=
  ∀ s t : State, Running s → step s = .next t →
    ∃ runs : List (List (Byte × Bool)), attempts (newEvents s t) = runs.flatten
      ∧ ∀ run ∈ runs, ∃ p : Packet, p.valid = true ∧ run.map (·.1) <+: p.bytes
        ∧ (∀ x ∈ run.dropLast, x.2 = true)
        ∧ (run.length = 5 ∨ run.getLast?.map (·.2) = some false)

/-- R142: the block transmits nothing on its own: a step with an attempt in it is inside a `Handle`, and in any run from
reset, in any environment, nothing is attempted as long as no packet has been delivered. -/
def Obligations.TransmitsOnlyInsideHandle : Prop :=
  (∀ s t : State, step s = .next t → attempts (newEvents s t) ≠ [] → s.busy = true ∧ isFramerOp (fetch s) = false)
  ∧ ∀ (n : Nat) (c : Config) (rx : List (Option Byte)) (sink : List Bool) (storage : Option Storage)
      (rst : List RstInput) (t : State),
      Sys2Proof.core.run n { State.reset with cfg := c, rx := rx, sink := sink, storage := storage, rst := rst }
        = .next t →
      delivered t.trace = [] → attempts t.trace = []

/-! ### The dispatcher -/

/-- R102, GET_STARTUP: the 15 bytes of Startup, Version and Tower-Number, up to the first refusal; `error` cleared only if all
were accepted; parameters unused; then the epilogue or the end of `Handle`. -/
def Obligations.GetStartupSendsThree : Prop :=
  ∀ s : State, s.cfg.ok = true → s.busy = true → s.phase = .handler → s.latch.cmd &&& 0x7F#8 = s.cfg.cmdStartup →
    ∃ ok u,
      Emits ((build s.cfg.cmdStartup s.cfg.startupP1 s.cfg.startupP2 s.cfg.startupP3).bytes
        ++ (build s.cfg.cmdVersion s.cfg.versionP1 s.cfg.versionP2 s.cfg.versionP3).bytes
        ++ (build s.cfg.cmdTowerNumber s.cfg.tnRespP1 (s.towerNumber.extractLsb' 0 8)
            (s.towerNumber.extractLsb' 8 8)).bytes) s ok u
      ∧ exec (.getStartup (ackBit s.latch.cmd) s.latch.p1 s.latch.p2 s.latch.p3) s = .next { u with
          error := !ok, busy := ackBit s.latch.cmd
          phase := if ackBit s.latch.cmd then .epilogue else .handler }

/-- R103, GET_VERSION: the Version packet, whatever the request's parameters. -/
def Obligations.GetVersionSendsVersion : Prop :=
  ∀ s : State, s.cfg.ok = true → s.busy = true → s.phase = .handler → s.latch.cmd &&& 0x7F#8 = s.cfg.cmdVersion →
    ∃ ok u,
      Emits (build s.cfg.cmdVersion s.cfg.versionP1 s.cfg.versionP2 s.cfg.versionP3).bytes s ok u
      ∧ exec (.getVersion (ackBit s.latch.cmd) s.latch.p1 s.latch.p2 s.latch.p3) s = .next { u with
          error := !ok, busy := ackBit s.latch.cmd
          phase := if ackBit s.latch.cmd then .epilogue else .handler }

/-- R104, TOWER_NUMBER GET: the Tower-Number packet with the current Lsb and Msb. -/
def Obligations.TowerNumberGetSendsCurrent : Prop :=
  ∀ s : State, s.cfg.ok = true → s.busy = true → s.phase = .handler →
    s.latch.cmd &&& 0x7F#8 = s.cfg.cmdTowerNumber → s.latch.p1 = s.cfg.subGet →
    ∃ ok u,
      Emits (build s.cfg.cmdTowerNumber s.cfg.tnRespP1 (s.towerNumber.extractLsb' 0 8)
        (s.towerNumber.extractLsb' 8 8)).bytes s ok u
      ∧ exec (.towerNumberGet (ackBit s.latch.cmd) s.latch.p2 s.latch.p3) s = .next { u with
          error := !ok, busy := ackBit s.latch.cmd
          phase := if ackBit s.latch.cmd then .epilogue else .handler }

/-- R105, TOWER_NUMBER SET: all 16 bits at once, one `NvStore`, `error <- 0`, nothing sent by the handler. -/
def Obligations.TowerNumberSetWrites : Prop :=
  ∀ s : State, s.cfg.ok = true → s.busy = true → s.phase = .handler →
    s.latch.cmd &&& 0x7F#8 = s.cfg.cmdTowerNumber → s.latch.p1 = s.cfg.subSet →
    exec (.towerNumberSet (ackBit s.latch.cmd) s.latch.p2 s.latch.p3) s = .next { s with
      towerNumber := s.latch.p3 ++ s.latch.p2
      storage := s.storage.map fun w => { w with towerNumber := s.latch.p3 ++ s.latch.p2 }
      trace := s.trace ++ [.nvStore .towerNumber (s.latch.p3 ++ s.latch.p2)]
      error := false, busy := ackBit s.latch.cmd
      phase := if ackBit s.latch.cmd then .epilogue else .handler }
    ∧ (s.latch.p3 ++ s.latch.p2 : Word16).extractLsb' 0 8 = s.latch.p2
    ∧ (s.latch.p3 ++ s.latch.p2 : Word16).extractLsb' 8 8 = s.latch.p3

/-- R106, UNMATCHED: every packet that matches none of R102 to R105: no state change but `error`, which keeps the 1 of the
start; no response. -/
def Obligations.UnmatchedDoesNothing : Prop :=
  ∀ s : State, s.busy = true → s.phase = .handler → s.latch.cmd &&& 0x7F#8 ≠ s.cfg.cmdStartup →
    s.latch.cmd &&& 0x7F#8 ≠ s.cfg.cmdVersion →
    ¬(s.latch.cmd &&& 0x7F#8 = s.cfg.cmdTowerNumber ∧ (s.latch.p1 = s.cfg.subGet ∨ s.latch.p1 = s.cfg.subSet)) →
    exec (.unmatched (ackBit s.latch.cmd) (codeField s.latch.cmd) s.latch.p1 s.latch.p2 s.latch.p3) s = .next { s with
      error := true, busy := ackBit s.latch.cmd
      phase := if ackBit s.latch.cmd then .epilogue else .handler }

/-- R107, the ACK epilogue: after the handler of every packet with `cmd[7] == 1`, and of no other; one packet with the masked
command, bit 7 set exactly when `error == 0`, and the request's parameters; its result discarded, `error` not updated; a
positive acknowledgment is byte for byte the request, a negative one differs in bit 7 of bytes 0 and 4 only. -/
def Obligations.AckEpilogue : Prop :=
  (∀ s : State, s.busy = true → s.phase = .epilogue → ackBit s.latch.cmd = true →
    ∃ ok u,
      Emits (build (if s.error = false then s.latch.cmd &&& 0x7F#8 ||| 0x80#8 else s.latch.cmd &&& 0x7F#8)
        s.latch.p1 s.latch.p2 s.latch.p3).bytes s ok u
      ∧ exec (.ack (codeField s.latch.cmd) s.latch.p1 s.latch.p2 s.latch.p3) s
          = .next { u with busy := false, phase := .handler })
  ∧ (∀ s t : State, s.busy = true → s.phase = .handler → exec (fetch s) s = .next t →
      t.busy = ackBit s.latch.cmd ∧ (t.busy = true → fetch t = ackOf s.latch))
  ∧ ∀ p : Packet, p.valid = true → ackBit p.cmd = true →
      build (p.cmd &&& 0x7F#8 ||| 0x80#8) p.p1 p.p2 p.p3 = p
      ∧ build (p.cmd &&& 0x7F#8) p.p1 p.p2 p.p3 = { p with cmd := p.cmd ^^^ 0x80#8, cks := p.cks ^^^ 0x80#8 }

/-- The frame of the commands and the epilogue: cursor, buffer, latched packet, Tower Mode, configuration, source and reset
input never change; `tower_number` and storage change at SET only. -/
def Obligations.DispatcherFrame : Prop :=
  ∀ (s t : State), s.busy = true → exec (fetch s) s = .next t →
    t.pos = s.pos ∧ t.buf = s.buf ∧ t.latch = s.latch ∧ t.towerMode = s.towerMode ∧ t.cfg = s.cfg ∧ t.rx = s.rx
    ∧ t.rst = s.rst ∧ takenBytes (newEvents s t) = [] ∧ delivered (newEvents s t) = []
    ∧ ((∀ a p2 p3, fetch s ≠ .towerNumberSet a p2 p3) →
        t.towerNumber = s.towerNumber ∧ t.storage = s.storage ∧ stores (newEvents s t) = [])
    ∧ (isCommand (fetch s) = false → t.error = s.error)

/-- HANDLE (42_dispatcher.md section 1): from the delivery on, the handler's step and, for a request with bit 7 set, the
epilogue's step together are `Handle` as the spec writes it; it is started by COMPLETE and by nothing else, on a packet that
passed the framer's check; and nothing is sent except inside it. The split into these two steps is the model's (log 1,
DEDUCED). -/
def Obligations.HandleMatchesPseudocode : Prop :=
  (∀ s : State, Running s → s.busy = true → s.phase = .handler →
    Sys2Proof.core.run (if ackBit s.latch.cmd then 2 else 1) s = .next (handle s.latch s))
  ∧ (∀ s t : State, step s = .next t → s.busy = false → t.busy = true →
      fetch s = .complete ∧ t.phase = .handler
      ∧ ∃ p, delivered (newEvents s t) = [p] ∧ p.valid = true ∧ t.latch = p.request)
  ∧ ∀ s t : State, step s = .next t → s.busy = false → attempts (newEvents s t) = []

/-- `Handle` always ends, after at most 20 attempts (42_dispatcher.md section 3), with cursor, buffer and source untouched.
That it ends within two steps is the model's split of `Handle` (log 1, DEDUCED), not the spec's words. -/
def Obligations.HandleEnds : Prop :=
  ∀ s : State, Running s → s.busy = true →
    ∃ n ≤ 2, ∃ t, Sys2Proof.core.run n s = .next t ∧ t.busy = false ∧ (attempts (newEvents s t)).length ≤ 20
      ∧ t.pos = s.pos ∧ t.buf = s.buf ∧ t.rx = s.rx

/-- The table of 42_dispatcher.md section 5: what is sent, and Tower Number afterwards, when the sink accepts everything. The
number of steps is the model's split of `Handle` (log 1, DEDUCED). -/
def Obligations.OutcomesWhenSinkAccepts : Prop :=
  ∀ (s : State) (r : List Bool), Running s → s.busy = true → s.phase = .handler →
    s.sink = List.replicate 20 true ++ r →
    ∃ t, Sys2Proof.core.run (if ackBit s.latch.cmd then 2 else 1) s = .next t
      ∧ t.busy = false
      ∧ accepted (newEvents s t) = (attempts (newEvents s t)).map (·.1)
      ∧ accepted (newEvents s t) =
        (match decodeRequest s.cfg s.latch with
          | .getStartup _ _ _ _ =>
            (build s.cfg.cmdStartup s.cfg.startupP1 s.cfg.startupP2 s.cfg.startupP3).bytes
            ++ (build s.cfg.cmdVersion s.cfg.versionP1 s.cfg.versionP2 s.cfg.versionP3).bytes
            ++ (build s.cfg.cmdTowerNumber s.cfg.tnRespP1 (s.towerNumber.extractLsb' 0 8)
              (s.towerNumber.extractLsb' 8 8)).bytes
          | .getVersion _ _ _ _ => (build s.cfg.cmdVersion s.cfg.versionP1 s.cfg.versionP2 s.cfg.versionP3).bytes
          | .towerNumberGet _ _ _ =>
            (build s.cfg.cmdTowerNumber s.cfg.tnRespP1 (s.towerNumber.extractLsb' 0 8)
              (s.towerNumber.extractLsb' 8 8)).bytes
          | _ => [])
        ++ (if ackBit s.latch.cmd then
            (match decodeRequest s.cfg s.latch with
              | .unmatched _ _ _ _ _ => (build (s.latch.cmd &&& 0x7F#8) s.latch.p1 s.latch.p2 s.latch.p3).bytes
              | _ => (build s.latch.cmd s.latch.p1 s.latch.p2 s.latch.p3).bytes)
          else [])
      ∧ t.towerNumber = (match decodeRequest s.cfg s.latch with
          | .towerNumberSet _ p2 p3 => p3 ++ p2
          | _ => s.towerNumber)

/-- The flag `error` over all steps (42_dispatcher.md section 1): only a command writes it, and it is 0 after a command exactly
when the command matched and every attempt of its step was accepted. -/
def Obligations.ErrorFlagTellsEmissions : Prop :=
  ∀ s t : State, Running s → step s = .next t →
    (isCommand (fetch s) = false → t.error = s.error)
    ∧ (isCommand (fetch s) = true →
        (t.error = false ↔
          (∀ a code p1 p2 p3, fetch s ≠ .unmatched a code p1 p2 p3) ∧ ∀ x ∈ attempts (newEvents s t), x.2 = true))

/-- Every step keeps a `Handle` about the packet delivered last, and before its epilogue only if that packet asked for an
acknowledgment. -/
def Obligations.StepKeepsHandleInOrder : Prop :=
  ∀ s t : State, HandleInOrder s → step s = .next t → HandleInOrder t

/-! ### Rules of the whole machine -/

/-- Only TOWER_NUMBER SET writes `tower_number` (10_state.md section 3): a step without reset that changes it runs a SET, and
the new value is `{p3, p2}` of that request. -/
def Obligations.OnlySetWritesTowerNumber : Prop :=
  ∀ s t : State, Running s → step s = .next t → t.towerNumber ≠ s.towerNumber →
    ∃ a p2 p3, fetch s = .towerNumberSet a p2 p3 ∧ t.towerNumber = p3 ++ p2

/-- Tower Mode (90_conflicts.md C2): no step without reset writes it, no step stores it, and no step's other effects depend
on it. -/
def Obligations.TowerModeNeverWrittenNorRead : Prop :=
  (∀ s t : State, Running s → step s = .next t → t.towerMode = s.towerMode)
  ∧ (∀ s t : State, step s = .next t → ∀ x ∈ stores (newEvents s t), x.1 = .towerNumber)
  ∧ ∀ (s t : State) (v : Word16), Running s → step s = .next t →
      step { s with towerMode := v } = .next { t with towerMode := v }

/-- R145: exactly one of framer and dispatcher is active; while `busy == 1` no byte is taken and `pos` and `buf` do not
change; COMPLETE sets `busy`, the end of `Handle` clears it. -/
def Obligations.BusyInterlock : Prop :=
  ∀ s : State, Running s →
    (isFramerOp (fetch s) = true ↔ s.busy = false)
    ∧ ∀ t, step s = .next t →
      (s.busy = true → t.rx = s.rx ∧ t.pos = s.pos ∧ t.buf = s.buf ∧ takenBytes (newEvents s t) = [])
      ∧ (s.busy = false → (t.busy = true ↔ fetch s = .complete))
      ∧ (s.busy = true → (t.busy = false ↔ s.phase = .epilogue ∨ ackBit s.latch.cmd = false))

/-- Nothing but `error`'s place in the acknowledgment passes from one `Handle` to the next (10_state.md section 3): two states
that differ only in `error`, the latched packet and the phase go the same way from the next delivery on. -/
def Obligations.DispatcherIsStateless : Prop :=
  ∀ (s t t' : State) (e : Bool) (l : Request) (p : Phase), Running s → s.busy = false → fetch s = .complete →
    step s = .next t → step { s with error := e, latch := l, phase := p } = .next t' → step t = step t'

/-- Ignored parameters (30_encoding.md section 4): what GET_STARTUP, GET_VERSION and TOWER_NUMBER GET send, and the flag they
leave, do not depend on the parameter bytes the table marks ignored. -/
def Obligations.IgnoredParametersDoNotMatter : Prop :=
  ∀ (s t t' : State) (q1 q2 q3 : Byte), Running s → s.busy = true → s.phase = .handler →
    (s.latch.cmd &&& 0x7F#8 = s.cfg.cmdStartup ∨ s.latch.cmd &&& 0x7F#8 = s.cfg.cmdVersion
      ∨ (s.latch.cmd &&& 0x7F#8 = s.cfg.cmdTowerNumber ∧ s.latch.p1 = s.cfg.subGet ∧ q1 = s.cfg.subGet)) →
    step s = .next t → step { s with latch := ⟨s.latch.cmd, q1, q2, q3⟩ } = .next t' →
    newEvents s t' = newEvents s t ∧ t'.error = t.error

/-- A SET is seen by every later GET (20_memory.md section 6): as long as the register is not written again, a later
TOWER_NUMBER GET sends the two bytes the SET carried. -/
def Obligations.SetThenGetReportsIt : Prop :=
  ∀ (s t u v : State) (a : Bool) (p2 p3 : Byte), Running s → s.busy = true → fetch s = .towerNumberSet a p2 p3 →
    step s = .next t → u.towerNumber = t.towerNumber → u.cfg = t.cfg → u.rst = [] → u.busy = true →
    (∃ a' q2 q3, fetch u = .towerNumberGet a' q2 q3) → step u = .next v →
    ∃ ok w, Emits (build s.cfg.cmdTowerNumber s.cfg.tnRespP1 p2 p3).bytes u ok w ∧ newEvents u v = newEvents u w

/-- With a storage collaborator a SET survives reset; without one reset gives the parameter. It rests on log 4 (DEDUCED):
storage returns what was stored last. -/
def Obligations.StoredNumberSurvivesReset : Prop :=
  ∀ (s t u : State) (a : Bool) (p2 p3 : Byte) (r : List RstInput), s.cfg.ok = true → s.busy = true →
    fetch s = .towerNumberSet a p2 p3 → s.rst = .low :: .high :: r → step s = .next t → step t = .next u →
    (s.storage.isSome = true → u.towerNumber = p3 ++ p2)
    ∧ (s.storage = none → u.towerNumber = s.cfg.towerNumberReset)

/-- The configuration never changes (10_state.md section 4). -/
def Obligations.StepKeepsConfiguration : Prop :=
  ∀ s t : State, step s = .next t → t.cfg = s.cfg

/-- Nothing an observer has seen is undone: every step only adds events, and a step without reset adds none that is a reset
(20_memory.md section 6). -/
def Obligations.TraceOnlyGrows : Prop :=
  ∀ s t : State, step s = .next t → s.trace <+: t.trace ∧ (s.rst = [] → .reset ∉ newEvents s t)

/-- The signals of 70_reset_and_hazards.md section 4: `rx_take` says exactly whether a byte is taken, `pkt_valid` comes with
COMPLETE only, `nv_store` with TOWER_NUMBER SET only, `pos_fault` with DEFENSIVE only. -/
def Obligations.SignalsFollowTheStep : Prop :=
  ∀ s t : State, Running s → step s = .next t →
    ((signals s t).rxTake = true ↔ takenBytes (newEvents s t) ≠ [])
    ∧ ((signals s t).pkt.isSome = true ↔ fetch s = .complete)
    ∧ ((signals s t).nvStore.isSome = true ↔ ∃ a p2 p3, fetch s = .towerNumberSet a p2 p3)
    ∧ ((signals s t).posFault = true ↔ fetch s = .defensive5 ∨ fetch s = .defensive67)
    ∧ ((signals s t).txTries ≠ [] → (signals s t).busy = true)
end

