-- ==== Sys2Proof/Laws/State.lean ====
section
/-!
SUPPORT. What each state update of Machine/Ops.lean does to each field: one lemma per field per update.
-/
namespace Sys2Proof.Machine

variable (s : State)

/-! ### emit -/

@[simp] theorem emit_pos (e : Event) : (s.emit e).pos = s.pos := rfl
@[simp] theorem emit_buf (e : Event) : (s.emit e).buf = s.buf := rfl
@[simp] theorem emit_towerNumber (e : Event) : (s.emit e).towerNumber = s.towerNumber := rfl
@[simp] theorem emit_towerMode (e : Event) : (s.emit e).towerMode = s.towerMode := rfl
@[simp] theorem emit_error (e : Event) : (s.emit e).error = s.error := rfl
@[simp] theorem emit_busy (e : Event) : (s.emit e).busy = s.busy := rfl
@[simp] theorem emit_latch (e : Event) : (s.emit e).latch = s.latch := rfl
@[simp] theorem emit_phase (e : Event) : (s.emit e).phase = s.phase := rfl
@[simp] theorem emit_cfg (e : Event) : (s.emit e).cfg = s.cfg := rfl
@[simp] theorem emit_rx (e : Event) : (s.emit e).rx = s.rx := rfl
@[simp] theorem emit_sink (e : Event) : (s.emit e).sink = s.sink := rfl
@[simp] theorem emit_storage (e : Event) : (s.emit e).storage = s.storage := rfl
@[simp] theorem emit_rst (e : Event) : (s.emit e).rst = s.rst := rfl
@[simp] theorem emit_trace (e : Event) : (s.emit e).trace = s.trace ++ [e] := rfl
@[simp] theorem emit_draws (e : Event) : (s.emit e).draws = s.draws := rfl

/-! ### popRx -/

@[simp] theorem popRx_pos : s.popRx.pos = s.pos := rfl
@[simp] theorem popRx_buf : s.popRx.buf = s.buf := rfl
@[simp] theorem popRx_towerNumber : s.popRx.towerNumber = s.towerNumber := rfl
@[simp] theorem popRx_towerMode : s.popRx.towerMode = s.towerMode := rfl
@[simp] theorem popRx_error : s.popRx.error = s.error := rfl
@[simp] theorem popRx_busy : s.popRx.busy = s.busy := rfl
@[simp] theorem popRx_latch : s.popRx.latch = s.latch := rfl
@[simp] theorem popRx_phase : s.popRx.phase = s.phase := rfl
@[simp] theorem popRx_cfg : s.popRx.cfg = s.cfg := rfl
@[simp] theorem popRx_rx : s.popRx.rx = s.rx.tail := rfl
@[simp] theorem popRx_sink : s.popRx.sink = s.sink := rfl
@[simp] theorem popRx_storage : s.popRx.storage = s.storage := rfl
@[simp] theorem popRx_rst : s.popRx.rst = s.rst := rfl
@[simp] theorem popRx_trace : s.popRx.trace = s.trace := rfl
@[simp] theorem popRx_draws : s.popRx.draws = s.draws := rfl

/-! ### popRst -/

@[simp] theorem popRst_pos : s.popRst.pos = s.pos := rfl
@[simp] theorem popRst_buf : s.popRst.buf = s.buf := rfl
@[simp] theorem popRst_towerNumber : s.popRst.towerNumber = s.towerNumber := rfl
@[simp] theorem popRst_towerMode : s.popRst.towerMode = s.towerMode := rfl
@[simp] theorem popRst_error : s.popRst.error = s.error := rfl
@[simp] theorem popRst_busy : s.popRst.busy = s.busy := rfl
@[simp] theorem popRst_latch : s.popRst.latch = s.latch := rfl
@[simp] theorem popRst_phase : s.popRst.phase = s.phase := rfl
@[simp] theorem popRst_cfg : s.popRst.cfg = s.cfg := rfl
@[simp] theorem popRst_rx : s.popRst.rx = s.rx := rfl
@[simp] theorem popRst_sink : s.popRst.sink = s.sink := rfl
@[simp] theorem popRst_storage : s.popRst.storage = s.storage := rfl
@[simp] theorem popRst_rst : s.popRst.rst = s.rst.tail := rfl
@[simp] theorem popRst_trace : s.popRst.trace = s.trace := rfl
@[simp] theorem popRst_draws : s.popRst.draws = s.draws := rfl

/-! ### popSink -/

@[simp] theorem popSink_pos : s.popSink.pos = s.pos := rfl
@[simp] theorem popSink_buf : s.popSink.buf = s.buf := rfl
@[simp] theorem popSink_towerNumber : s.popSink.towerNumber = s.towerNumber := rfl
@[simp] theorem popSink_towerMode : s.popSink.towerMode = s.towerMode := rfl
@[simp] theorem popSink_error : s.popSink.error = s.error := rfl
@[simp] theorem popSink_busy : s.popSink.busy = s.busy := rfl
@[simp] theorem popSink_latch : s.popSink.latch = s.latch := rfl
@[simp] theorem popSink_phase : s.popSink.phase = s.phase := rfl
@[simp] theorem popSink_cfg : s.popSink.cfg = s.cfg := rfl
@[simp] theorem popSink_rx : s.popSink.rx = s.rx := rfl
@[simp] theorem popSink_sink : s.popSink.sink = s.sink.tail := rfl
@[simp] theorem popSink_storage : s.popSink.storage = s.storage := rfl
@[simp] theorem popSink_rst : s.popSink.rst = s.rst := rfl
@[simp] theorem popSink_trace : s.popSink.trace = s.trace := rfl
@[simp] theorem popSink_draws : s.popSink.draws = s.draws + 1 := rfl

/-! ### setFramer -/

@[simp] theorem setFramer_pos (p : BitVec 3) (f : Buf) : (s.setFramer p f).pos = p := rfl
@[simp] theorem setFramer_buf (p : BitVec 3) (f : Buf) : (s.setFramer p f).buf = f := rfl
@[simp] theorem setFramer_towerNumber (p : BitVec 3) (f : Buf) : (s.setFramer p f).towerNumber = s.towerNumber := rfl
@[simp] theorem setFramer_towerMode (p : BitVec 3) (f : Buf) : (s.setFramer p f).towerMode = s.towerMode := rfl
@[simp] theorem setFramer_error (p : BitVec 3) (f : Buf) : (s.setFramer p f).error = s.error := rfl
@[simp] theorem setFramer_busy (p : BitVec 3) (f : Buf) : (s.setFramer p f).busy = s.busy := rfl
@[simp] theorem setFramer_latch (p : BitVec 3) (f : Buf) : (s.setFramer p f).latch = s.latch := rfl
@[simp] theorem setFramer_phase (p : BitVec 3) (f : Buf) : (s.setFramer p f).phase = s.phase := rfl
@[simp] theorem setFramer_cfg (p : BitVec 3) (f : Buf) : (s.setFramer p f).cfg = s.cfg := rfl
@[simp] theorem setFramer_rx (p : BitVec 3) (f : Buf) : (s.setFramer p f).rx = s.rx := rfl
@[simp] theorem setFramer_sink (p : BitVec 3) (f : Buf) : (s.setFramer p f).sink = s.sink := rfl
@[simp] theorem setFramer_storage (p : BitVec 3) (f : Buf) : (s.setFramer p f).storage = s.storage := rfl
@[simp] theorem setFramer_rst (p : BitVec 3) (f : Buf) : (s.setFramer p f).rst = s.rst := rfl
@[simp] theorem setFramer_trace (p : BitVec 3) (f : Buf) : (s.setFramer p f).trace = s.trace := rfl
@[simp] theorem setFramer_draws (p : BitVec 3) (f : Buf) : (s.setFramer p f).draws = s.draws := rfl

/-! ### setError -/

@[simp] theorem setError_pos (e : Bool) : (s.setError e).pos = s.pos := rfl
@[simp] theorem setError_buf (e : Bool) : (s.setError e).buf = s.buf := rfl
@[simp] theorem setError_towerNumber (e : Bool) : (s.setError e).towerNumber = s.towerNumber := rfl
@[simp] theorem setError_towerMode (e : Bool) : (s.setError e).towerMode = s.towerMode := rfl
@[simp] theorem setError_error (e : Bool) : (s.setError e).error = e := rfl
@[simp] theorem setError_busy (e : Bool) : (s.setError e).busy = s.busy := rfl
@[simp] theorem setError_latch (e : Bool) : (s.setError e).latch = s.latch := rfl
@[simp] theorem setError_phase (e : Bool) : (s.setError e).phase = s.phase := rfl
@[simp] theorem setError_cfg (e : Bool) : (s.setError e).cfg = s.cfg := rfl
@[simp] theorem setError_rx (e : Bool) : (s.setError e).rx = s.rx := rfl
@[simp] theorem setError_sink (e : Bool) : (s.setError e).sink = s.sink := rfl
@[simp] theorem setError_storage (e : Bool) : (s.setError e).storage = s.storage := rfl
@[simp] theorem setError_rst (e : Bool) : (s.setError e).rst = s.rst := rfl
@[simp] theorem setError_trace (e : Bool) : (s.setError e).trace = s.trace := rfl
@[simp] theorem setError_draws (e : Bool) : (s.setError e).draws = s.draws := rfl

/-! ### setTowerNumber -/

@[simp] theorem setTowerNumber_pos (v : Word16) : (s.setTowerNumber v).pos = s.pos := rfl
@[simp] theorem setTowerNumber_buf (v : Word16) : (s.setTowerNumber v).buf = s.buf := rfl
@[simp] theorem setTowerNumber_towerNumber (v : Word16) : (s.setTowerNumber v).towerNumber = v := rfl
@[simp] theorem setTowerNumber_towerMode (v : Word16) : (s.setTowerNumber v).towerMode = s.towerMode := rfl
@[simp] theorem setTowerNumber_error (v : Word16) : (s.setTowerNumber v).error = s.error := rfl
@[simp] theorem setTowerNumber_busy (v : Word16) : (s.setTowerNumber v).busy = s.busy := rfl
@[simp] theorem setTowerNumber_latch (v : Word16) : (s.setTowerNumber v).latch = s.latch := rfl
@[simp] theorem setTowerNumber_phase (v : Word16) : (s.setTowerNumber v).phase = s.phase := rfl
@[simp] theorem setTowerNumber_cfg (v : Word16) : (s.setTowerNumber v).cfg = s.cfg := rfl
@[simp] theorem setTowerNumber_rx (v : Word16) : (s.setTowerNumber v).rx = s.rx := rfl
@[simp] theorem setTowerNumber_sink (v : Word16) : (s.setTowerNumber v).sink = s.sink := rfl
@[simp] theorem setTowerNumber_storage (v : Word16) : (s.setTowerNumber v).storage = s.storage := rfl
@[simp] theorem setTowerNumber_rst (v : Word16) : (s.setTowerNumber v).rst = s.rst := rfl
@[simp] theorem setTowerNumber_trace (v : Word16) : (s.setTowerNumber v).trace = s.trace := rfl
@[simp] theorem setTowerNumber_draws (v : Word16) : (s.setTowerNumber v).draws = s.draws := rfl

/-! ### beginHandle -/

@[simp] theorem beginHandle_pos (r : Request) : (s.beginHandle r).pos = s.pos := rfl
@[simp] theorem beginHandle_buf (r : Request) : (s.beginHandle r).buf = s.buf := rfl
@[simp] theorem beginHandle_towerNumber (r : Request) : (s.beginHandle r).towerNumber = s.towerNumber := rfl
@[simp] theorem beginHandle_towerMode (r : Request) : (s.beginHandle r).towerMode = s.towerMode := rfl
@[simp] theorem beginHandle_error (r : Request) : (s.beginHandle r).error = s.error := rfl
@[simp] theorem beginHandle_busy (r : Request) : (s.beginHandle r).busy = true := rfl
@[simp] theorem beginHandle_latch (r : Request) : (s.beginHandle r).latch = r := rfl
@[simp] theorem beginHandle_phase (r : Request) : (s.beginHandle r).phase = .handler := rfl
@[simp] theorem beginHandle_cfg (r : Request) : (s.beginHandle r).cfg = s.cfg := rfl
@[simp] theorem beginHandle_rx (r : Request) : (s.beginHandle r).rx = s.rx := rfl
@[simp] theorem beginHandle_sink (r : Request) : (s.beginHandle r).sink = s.sink := rfl
@[simp] theorem beginHandle_storage (r : Request) : (s.beginHandle r).storage = s.storage := rfl
@[simp] theorem beginHandle_rst (r : Request) : (s.beginHandle r).rst = s.rst := rfl
@[simp] theorem beginHandle_trace (r : Request) : (s.beginHandle r).trace = s.trace := rfl
@[simp] theorem beginHandle_draws (r : Request) : (s.beginHandle r).draws = s.draws := rfl

/-! ### toEpilogue -/

@[simp] theorem toEpilogue_pos : s.toEpilogue.pos = s.pos := rfl
@[simp] theorem toEpilogue_buf : s.toEpilogue.buf = s.buf := rfl
@[simp] theorem toEpilogue_towerNumber : s.toEpilogue.towerNumber = s.towerNumber := rfl
@[simp] theorem toEpilogue_towerMode : s.toEpilogue.towerMode = s.towerMode := rfl
@[simp] theorem toEpilogue_error : s.toEpilogue.error = s.error := rfl
@[simp] theorem toEpilogue_busy : s.toEpilogue.busy = s.busy := rfl
@[simp] theorem toEpilogue_latch : s.toEpilogue.latch = s.latch := rfl
@[simp] theorem toEpilogue_phase : s.toEpilogue.phase = .epilogue := rfl
@[simp] theorem toEpilogue_cfg : s.toEpilogue.cfg = s.cfg := rfl
@[simp] theorem toEpilogue_rx : s.toEpilogue.rx = s.rx := rfl
@[simp] theorem toEpilogue_sink : s.toEpilogue.sink = s.sink := rfl
@[simp] theorem toEpilogue_storage : s.toEpilogue.storage = s.storage := rfl
@[simp] theorem toEpilogue_rst : s.toEpilogue.rst = s.rst := rfl
@[simp] theorem toEpilogue_trace : s.toEpilogue.trace = s.trace := rfl
@[simp] theorem toEpilogue_draws : s.toEpilogue.draws = s.draws := rfl

/-! ### endHandle -/

@[simp] theorem endHandle_pos : s.endHandle.pos = s.pos := rfl
@[simp] theorem endHandle_buf : s.endHandle.buf = s.buf := rfl
@[simp] theorem endHandle_towerNumber : s.endHandle.towerNumber = s.towerNumber := rfl
@[simp] theorem endHandle_towerMode : s.endHandle.towerMode = s.towerMode := rfl
@[simp] theorem endHandle_error : s.endHandle.error = s.error := rfl
@[simp] theorem endHandle_busy : s.endHandle.busy = false := rfl
@[simp] theorem endHandle_latch : s.endHandle.latch = s.latch := rfl
@[simp] theorem endHandle_phase : s.endHandle.phase = .handler := rfl
@[simp] theorem endHandle_cfg : s.endHandle.cfg = s.cfg := rfl
@[simp] theorem endHandle_rx : s.endHandle.rx = s.rx := rfl
@[simp] theorem endHandle_sink : s.endHandle.sink = s.sink := rfl
@[simp] theorem endHandle_storage : s.endHandle.storage = s.storage := rfl
@[simp] theorem endHandle_rst : s.endHandle.rst = s.rst := rfl
@[simp] theorem endHandle_trace : s.endHandle.trace = s.trace := rfl
@[simp] theorem endHandle_draws : s.endHandle.draws = s.draws := rfl

/-! ### putStored -/

@[simp] theorem putStored_pos (r : NvReg) (v : Word16) : (s.putStored r v).pos = s.pos := rfl
@[simp] theorem putStored_buf (r : NvReg) (v : Word16) : (s.putStored r v).buf = s.buf := rfl
@[simp] theorem putStored_towerNumber (r : NvReg) (v : Word16) : (s.putStored r v).towerNumber = s.towerNumber := rfl
@[simp] theorem putStored_towerMode (r : NvReg) (v : Word16) : (s.putStored r v).towerMode = s.towerMode := rfl
@[simp] theorem putStored_error (r : NvReg) (v : Word16) : (s.putStored r v).error = s.error := rfl
@[simp] theorem putStored_busy (r : NvReg) (v : Word16) : (s.putStored r v).busy = s.busy := rfl
@[simp] theorem putStored_latch (r : NvReg) (v : Word16) : (s.putStored r v).latch = s.latch := rfl
@[simp] theorem putStored_phase (r : NvReg) (v : Word16) : (s.putStored r v).phase = s.phase := rfl
@[simp] theorem putStored_cfg (r : NvReg) (v : Word16) : (s.putStored r v).cfg = s.cfg := rfl
@[simp] theorem putStored_rx (r : NvReg) (v : Word16) : (s.putStored r v).rx = s.rx := rfl
@[simp] theorem putStored_sink (r : NvReg) (v : Word16) : (s.putStored r v).sink = s.sink := rfl
@[simp] theorem putStored_storage (r : NvReg) (v : Word16) : (s.putStored r v).storage = s.storage.map fun w => storagePut w r v := rfl
@[simp] theorem putStored_rst (r : NvReg) (v : Word16) : (s.putStored r v).rst = s.rst := rfl
@[simp] theorem putStored_trace (r : NvReg) (v : Word16) : (s.putStored r v).trace = s.trace := rfl
@[simp] theorem putStored_draws (r : NvReg) (v : Word16) : (s.putStored r v).draws = s.draws := rfl

/-! ### applyReset -/

@[simp] theorem applyReset_pos : (applyReset s).pos = 0#3 := rfl
@[simp] theorem applyReset_buf : (applyReset s).buf = freeBuf s.draws := rfl
@[simp] theorem applyReset_towerNumber : (applyReset s).towerNumber = resetTowerNumber s.storage s.cfg := rfl
@[simp] theorem applyReset_towerMode : (applyReset s).towerMode = resetTowerMode s.storage s.cfg := rfl
@[simp] theorem applyReset_error : (applyReset s).error = true := rfl
@[simp] theorem applyReset_busy : (applyReset s).busy = false := rfl
@[simp] theorem applyReset_latch : (applyReset s).latch = s.latch := rfl
@[simp] theorem applyReset_phase : (applyReset s).phase = s.phase := rfl
@[simp] theorem applyReset_cfg : (applyReset s).cfg = s.cfg := rfl
@[simp] theorem applyReset_rx : (applyReset s).rx = s.rx := rfl
@[simp] theorem applyReset_sink : (applyReset s).sink = s.sink := rfl
@[simp] theorem applyReset_storage : (applyReset s).storage = s.storage := rfl
@[simp] theorem applyReset_rst : (applyReset s).rst = s.rst := rfl
@[simp] theorem applyReset_trace : (applyReset s).trace = s.trace ++ [.reset] := rfl
@[simp] theorem applyReset_draws : (applyReset s).draws = s.draws + 5 := rfl

end Sys2Proof.Machine
end

