-- ==== Sys2Proof/Laws/Ops.lean ====
section
/-!
SUPPORT. One lemma per shared operation that says what it can do, for proofs to cite instead of unfolding it.
-/
namespace Sys2Proof.Machine

/-! ### The observers over appended events -/

theorem takenBytes_append (a b : List Event) : takenBytes (a ++ b) = takenBytes a ++ takenBytes b :=
  List.filterMap_append ..

theorem delivered_append (a b : List Event) : delivered (a ++ b) = delivered a ++ delivered b :=
  List.filterMap_append ..

theorem attempts_append (a b : List Event) : attempts (a ++ b) = attempts a ++ attempts b :=
  List.filterMap_append ..

theorem stores_append (a b : List Event) : stores (a ++ b) = stores a ++ stores b := List.filterMap_append ..

theorem accepted_append (a b : List Event) : accepted (a ++ b) = accepted a ++ accepted b := by
  simp [accepted, attempts_append]

/-- One more event that is no reset belongs to the events since the last reset. -/
theorem sinceReset_append_of_ne (a : List Event) {e : Event} (h : e ≠ .reset) :
    sinceReset (a ++ [e]) = sinceReset a ++ [e] := by
  simp [sinceReset, h]

/-- After a reset nothing has happened yet. -/
@[simp] theorem sinceReset_append_reset (a : List Event) : sinceReset (a ++ [.reset]) = [] := by
  simp [sinceReset]

/-- Several more events without a reset among them. -/
theorem sinceReset_append_list (a : List Event) (es : List Event) (h : Event.reset ∉ es) :
    sinceReset (a ++ es) = sinceReset a ++ es := by
  induction es generalizing a with
  | nil => simp
  | cons e es ih =>
    rw [List.mem_cons, not_or] at h
    rw [List.append_cons, ih _ h.2, sinceReset_append_of_ne a (Ne.symm h.1), ← List.append_cons]

/-- The events a step added, when the new trace is the old one and then those. -/
theorem newEvents_of_trace {s t : State} {es : List Event} (h : t.trace = s.trace ++ es) : newEvents s t = es := by
  simp [newEvents, h]

/-! ### RxPoll -/

/-- All `RxPoll` can do (R30): a byte is taken and recorded, or the answer is used up and nothing else changes. -/
theorem rxPoll_cases (s : State) :
    (∃ b, s.rxPeek = some b ∧ rxPoll s = (some b, s.popRx.emit (.taken b)))
    ∨ (s.rxPeek = none ∧ rxPoll s = (none, s.popRx)) := by
  unfold rxPoll
  cases h : s.rxPeek with
  | none => exact .inr ⟨rfl, rfl⟩
  | some b => exact .inl ⟨b, rfl, rfl⟩

/-- A framer operation's body with a byte available. -/
theorem onPoll_some {s : State} {b : Byte} (f : Byte → State → State) (h : s.rxPeek = some b) :
    onPoll f s = f b (s.popRx.emit (.taken b)) := by
  simp [onPoll, rxPoll, h]

/-- A framer operation's body with no byte available. -/
theorem onPoll_none {s : State} (f : Byte → State → State) (h : s.rxPeek = none) : onPoll f s = s.popRx := by
  simp [onPoll, rxPoll, h]

@[simp] theorem rxPeek_cons_some (s : State) (b : Byte) (r : List (Option Byte)) (h : s.rx = some b :: r) :
    s.rxPeek = some b := by
  simp [State.rxPeek, h]

@[simp] theorem rxPeek_cons_none (s : State) (r : List (Option Byte)) (h : s.rx = none :: r) : s.rxPeek = none := by
  simp [State.rxPeek, h]

@[simp] theorem rxPeek_nil (s : State) (h : s.rx = []) : s.rxPeek = none := by
  simp [State.rxPeek, h]

/-! ### Send -/

/-- The loop of SEND changes only the sink's answers, the counter of free values and the trace. -/
theorem sendBytes_frame (bs : List Byte) (s : State) :
    (sendBytes bs s).2 = { s with
      sink := (sendBytes bs s).2.sink, draws := (sendBytes bs s).2.draws, trace := (sendBytes bs s).2.trace } := by
  induction bs generalizing s with
  | nil => rfl
  | cons b bs ih =>
    unfold sendBytes
    split
    · rw [ih]
      rfl
    · rfl

/-- Sending two runs of bytes with `&&` between them is sending them one after the other (R100's short circuit). -/
theorem sendBytes_append (a b : List Byte) (s : State) :
    sendBytes (a ++ b) s = andThen (sendBytes a) (sendBytes b) s := by
  induction a generalizing s with
  | nil => simp [andThen, sendBytes]
  | cons x a ih =>
    simp only [List.cons_append, sendBytes, andThen]
    split
    · rw [ih]
      rfl
    · simp

/-- What `sendBytes` does is what `Emits` says (R91). -/
theorem sendBytes_emits (bs : List Byte) (s : State) : Emits bs s (sendBytes bs s).1 (sendBytes bs s).2 := by
  induction bs generalizing s with
  | nil => exact ⟨[], by simp [sendBytes]⟩
  | cons b bs ih =>
    have hfirst : [s.sinkAnswer].take s.sink.length = s.sink.take 1 := by
      unfold State.sinkAnswer
      cases s.sink <;> simp
    unfold sendBytes
    by_cases hb : s.sinkAnswer = true
    · obtain ⟨as, hlen, hst, hinit, hok, hno, hans⟩ := ih (txTry b s).2
      simp only [txTry, hb, if_true] at hst hok hno hans ⊢
      refine ⟨true :: as, by simpa using hlen, ?_, ?_, ?_, ?_, ?_⟩
      · rw [hst]
        simp [State.emit, State.popSink, Nat.add_assoc, Nat.add_comm 1]
      · cases as with
        | nil => simp
        | cons x xs => simpa using hinit
      · rw [hok]
        simp
      · intro h
        have := hno h
        cases as with
        | nil => simp at this
        | cons x xs => simpa using this
      · rw [hb] at hfirst
        cases hs : s.sink with
        | nil => simp
        | cons x xs =>
          simp only [State.emit, State.popSink, hs, List.tail_cons] at hans
          simp only [hs, List.length_cons, List.take_succ_cons, List.take_zero, List.take_nil, List.cons.injEq,
            and_true] at hfirst ⊢
          exact ⟨hfirst, hans⟩
    · rw [Bool.not_eq_true] at hb
      simp only [txTry, hb, Bool.false_eq_true, if_false]
      refine ⟨[false], by simp, ?_, by simp, by simp, by simp, ?_⟩
      · simp [State.emit, State.popSink]
      · rw [hb] at hfirst
        simpa using hfirst

/-- SEND as `Emits`, over the built frame (R90, R91). -/
theorem send_emits (c p1 p2 p3 : Byte) (s : State) :
    Emits (build c p1 p2 p3).bytes s (send c p1 p2 p3 s).1 (send c p1 p2 p3 s).2 :=
  sendBytes_emits ..

/-! ### Guards: when an operation answers a next state -/

theorem pollOp_next {i : Instr} {f : State → State} {s t : State} (h : pollOp i f s = .next t) :
    s.busy = false ∧ decodeSelector s.selector = i ∧ t = f s := by
  unfold pollOp at h
  split at h
  · cases h
  · split at h
    · cases h
      exact ⟨by simp_all, ‹_›, rfl⟩
    · cases h

theorem commandOp_next {i : Instr} {f : State → State} {s t : State} (h : commandOp i f s = .next t) :
    s.busy = true ∧ s.phase = .handler ∧ decodeRequest s.cfg s.latch = i ∧ t = f s := by
  unfold commandOp at h
  split at h
  · cases h
  · split at h
    · cases h
    · split at h
      · cases h
        refine ⟨by simp_all, ?_, ‹_›, rfl⟩
        cases hp : s.phase <;> simp_all
      · cases h

theorem epilogueOp_next {i : Instr} {f : State → State} {s t : State} (h : epilogueOp i f s = .next t) :
    s.busy = true ∧ s.phase = .epilogue ∧ ackOf s.latch = i ∧ t = f s := by
  unfold epilogueOp at h
  split at h
  · cases h
  · split at h
    · cases h
      rename_i hb hp
      exact ⟨by simpa using hb, hp.1, hp.2, rfl⟩
    · cases h

theorem sendOp_next {f : State → Bool × State} {s t : State} (h : sendOp f s = .next t) :
    s.busy = true ∧ t = (f s).2 := by
  unfold sendOp at h
  split at h
  · cases h
    exact ⟨‹_›, rfl⟩
  · cases h

/-! ### Handlers -/

/-- What a handler leaves, over its body (R101, R107, R108). -/
theorem handler_eq (ack : Bool) (body : State → Bool × State) (s : State) :
    handler ack body s =
      afterHandler ack ((body (s.setError true)).2.setError (!(body (s.setError true)).1)) :=
  rfl

theorem afterHandler_true (s : State) : afterHandler true s = s.toEpilogue := rfl

theorem afterHandler_false (s : State) : afterHandler false s = s.endHandle := rfl

end Sys2Proof.Machine
end

