-- ==== Sys2Proof/Laws/Step.lean ====
section
/-!
SUPPORT. What a step can do, said once: the cases of the framer (R62, R71 to R75), of the dispatcher (R55, R102 to R107), and
of the host's reset input (R140, R141). Proofs about every step start from these instead of unfolding `exec`.
-/
namespace Sys2Proof.Machine

/-- What the framer does, by what the source answers and where the cursor is. -/
theorem framer_cases (s : State) (hb : s.busy = false) :
    (s.rxPeek = none ∧ fetch s = .idle ∧ exec (fetch s) s = .next s.popRx)
    ∨ ∃ b, s.rxPeek = some b ∧
      ((s.pos ≤ 3#3 ∧ fetch s = .store
          ∧ exec (fetch s) s = .next ((s.popRx.emit (.taken b)).setFramer (s.pos + 1#3) (s.buf.put s.pos b)))
      ∨ (s.pos = 4#3 ∧ s.buf.xor4 = b ∧ fetch s = .complete
          ∧ exec (fetch s) s
            = .next (deliver (s.buf.packet b) ((s.popRx.emit (.taken b)).setFramer 0#3 (s.buf.put 4#3 b))))
      ∨ (s.pos = 4#3 ∧ s.buf.xor4 ≠ b ∧ fetch s = .resync
          ∧ exec (fetch s) s = .next ((s.popRx.emit (.taken b)).setFramer 0#3 (s.buf.shifted b)))
      ∨ (4#3 < s.pos ∧ (s.pos = 5#3 ∧ fetch s = .defensive5 ∨ s.pos ≠ 5#3 ∧ fetch s = .defensive67)
          ∧ exec (fetch s) s = .next (defensiveByte b (s.popRx.emit (.taken b))))) := by
  cases hp : s.rxPeek with
  | none =>
    refine .inl ⟨rfl, ?_⟩
    have hf : fetch s = .idle := by simp [fetch, hb, State.selector, hp, decodeSelector]
    refine ⟨hf, ?_⟩
    have hd : decodeSelector s.selector = .idle := by simpa [fetch, hb] using hf
    rw [hf]
    simp [exec, execIdle, pollOp, hb, hd, onPoll_none _ hp]
  | some b =>
    refine .inr ⟨b, rfl, ?_⟩
    by_cases h3 : s.pos ≤ 3#3
    · have hf : fetch s = .store := by simp [fetch, hb, State.selector, hp, decodeSelector, h3]
      have hd : decodeSelector s.selector = .store := by simpa [fetch, hb] using hf
      refine .inl ⟨h3, hf, ?_⟩
      rw [hf]
      simp [exec, execStore, pollOp, hb, hd, onPoll_some _ hp]
    · by_cases h4 : s.pos = 4#3
      · by_cases hx : s.buf.xor4 = b
        · have hf : fetch s = .complete := by simp [fetch, hb, State.selector, hp, decodeSelector, h4, hx]
          have hd : decodeSelector s.selector = .complete := by simpa [fetch, hb] using hf
          refine .inr (.inl ⟨h4, hx, hf, ?_⟩)
          rw [hf]
          simp [exec, execComplete, pollOp, hb, hd, onPoll_some _ hp]
        · have hf : fetch s = .resync := by simp [fetch, hb, State.selector, hp, decodeSelector, h4, hx]
          have hd : decodeSelector s.selector = .resync := by simpa [fetch, hb] using hf
          refine .inr (.inr (.inl ⟨h4, hx, hf, ?_⟩))
          rw [hf]
          simp [exec, execResync, pollOp, hb, hd, onPoll_some _ hp]
      · have hlt : 4#3 < s.pos := by bv_omega
        by_cases h5 : s.pos = 5#3
        · have hf : fetch s = .defensive5 := by simp [fetch, hb, State.selector, hp, decodeSelector, h5]
          have hd : decodeSelector s.selector = .defensive5 := by simpa [fetch, hb] using hf
          refine .inr (.inr (.inr ⟨hlt, .inl ⟨h5, hf⟩, ?_⟩))
          rw [hf]
          simp [exec, execDefensive5, pollOp, hb, hd, onPoll_some _ hp]
        · have hf : fetch s = .defensive67 := by
            simp [fetch, hb, State.selector, hp, decodeSelector, h3, h4, h5]
          have hd : decodeSelector s.selector = .defensive67 := by simpa [fetch, hb] using hf
          refine .inr (.inr (.inr ⟨hlt, .inr ⟨h5, hf⟩, ?_⟩))
          rw [hf]
          simp [exec, execDefensive67, pollOp, hb, hd, onPoll_some _ hp]

/-- The body of the handler of the request a state holds (R102 to R106). -/
def handlerBody (s : State) : State → Bool × State :=
  match decodeRequest s.cfg s.latch with
  | .getStartup _ _ _ _ => andThen (andThen sendStartup sendVersion) sendTowerNumber
  | .getVersion _ _ _ _ => sendVersion
  | .towerNumberGet _ _ _ => sendTowerNumber
  | .towerNumberSet _ p2 p3 => fun t => (true, nvStore .towerNumber (wordOf p2 p3) (t.setTowerNumber (wordOf p2 p3)))
  | _ => fun t => (false, t)

/-- The five results a request can decode to (R55). -/
theorem decodeRequest_cases (c : Config) (r : Request) :
    (codeOf r.cmd = c.cmdStartup ∧ decodeRequest c r = .getStartup (ackBit r.cmd) r.p1 r.p2 r.p3)
    ∨ (codeOf r.cmd ≠ c.cmdStartup ∧ codeOf r.cmd = c.cmdVersion
        ∧ decodeRequest c r = .getVersion (ackBit r.cmd) r.p1 r.p2 r.p3)
    ∨ (codeOf r.cmd ≠ c.cmdStartup ∧ codeOf r.cmd ≠ c.cmdVersion ∧ codeOf r.cmd = c.cmdTowerNumber ∧ r.p1 = c.subGet
        ∧ decodeRequest c r = .towerNumberGet (ackBit r.cmd) r.p2 r.p3)
    ∨ (codeOf r.cmd ≠ c.cmdStartup ∧ codeOf r.cmd ≠ c.cmdVersion ∧ codeOf r.cmd = c.cmdTowerNumber ∧ r.p1 ≠ c.subGet
        ∧ r.p1 = c.subSet ∧ decodeRequest c r = .towerNumberSet (ackBit r.cmd) r.p2 r.p3)
    ∨ (codeOf r.cmd ≠ c.cmdStartup ∧ codeOf r.cmd ≠ c.cmdVersion
        ∧ ¬(codeOf r.cmd = c.cmdTowerNumber ∧ (r.p1 = c.subGet ∨ r.p1 = c.subSet))
        ∧ decodeRequest c r = .unmatched (ackBit r.cmd) (codeField r.cmd) r.p1 r.p2 r.p3) := by
  unfold decodeRequest
  by_cases h1 : codeOf r.cmd = c.cmdStartup
  · exact .inl ⟨h1, if_pos h1⟩
  refine .inr ?_
  rw [if_neg h1]
  by_cases h2 : codeOf r.cmd = c.cmdVersion
  · exact .inl ⟨h1, h2, if_pos h2⟩
  refine .inr ?_
  rw [if_neg h2]
  by_cases h3 : codeOf r.cmd = c.cmdTowerNumber ∧ r.p1 = c.subGet
  · exact .inl ⟨h1, h2, h3.1, h3.2, if_pos h3⟩
  refine .inr ?_
  rw [if_neg h3]
  by_cases h4 : codeOf r.cmd = c.cmdTowerNumber ∧ r.p1 = c.subSet
  · exact .inl ⟨h1, h2, h4.1, fun h => h3 ⟨h4.1, h⟩, h4.2, if_pos h4⟩
  refine .inr ⟨h1, h2, ?_, if_neg h4⟩
  rintro ⟨hc, hg | hs⟩
  · exact h3 ⟨hc, hg⟩
  · exact h4 ⟨hc, hs⟩

/-- What the dispatcher does: the handler of the latched request, or the epilogue. -/
theorem dispatcher_cases (s : State) (hb : s.busy = true) :
    (s.phase = .handler ∧ fetch s = decodeRequest s.cfg s.latch
        ∧ exec (fetch s) s = .next (handler (ackBit s.latch.cmd) (handlerBody s) s))
    ∨ (s.phase = .epilogue ∧ fetch s = ackOf s.latch
        ∧ exec (fetch s) s
          = .next (acknowledge (codeField s.latch.cmd) s.latch.p1 s.latch.p2 s.latch.p3 s).endHandle) := by
  cases hp : s.phase with
  | handler =>
    have hf : fetch s = decodeRequest s.cfg s.latch := by simp [fetch, hb, hp]
    refine .inl ⟨rfl, hf, ?_⟩
    rw [hf]
    obtain ⟨-, h⟩ | ⟨-, -, h⟩ | ⟨-, -, -, -, h⟩ | ⟨-, -, -, -, -, h⟩ | ⟨-, -, -, h⟩ :=
      decodeRequest_cases s.cfg s.latch <;> rw [h] <;>
      simp [exec, execGetStartup, execGetVersion, execTowerNumberGet, execTowerNumberSet, execUnmatched, commandOp, hb,
        hp, h, handlerBody]
  | epilogue =>
    have hf : fetch s = ackOf s.latch := by simp [fetch, hb, hp]
    refine .inr ⟨rfl, hf, ?_⟩
    rw [hf]
    simp [ackOf, exec, execAck, epilogueOp, hb, hp]

/-- The fetched instruction always answers a next state. -/
theorem exec_fetch_answers (s : State) : ∃ t, exec (fetch s) s = .next t := by
  cases hb : s.busy with
  | false =>
    obtain ⟨-, -, h⟩ | ⟨_, -, ⟨-, -, h⟩ | ⟨-, -, -, h⟩ | ⟨-, -, -, h⟩ | ⟨-, -, h⟩⟩ := framer_cases s hb <;>
      exact ⟨_, h⟩
  | true =>
    obtain ⟨-, -, h⟩ | ⟨-, -, h⟩ := dispatcher_cases s hb <;> exact ⟨_, h⟩

/-- Using up a sample of `rst` changes nothing the next operation depends on. -/
@[simp] theorem fetch_popRst (s : State) : fetch s.popRst = fetch s := rfl

/-- All a step can do, over the host's reset input (R140, R141). -/
theorem step_cases {s t : State} (h : step s = .next t) :
    s.cfg.ok = true ∧
      ((s.rst = [] ∧ exec (fetch s) s = .next t)
      ∨ (∃ r, s.rst = .low :: r ∧ exec (fetch s) s.popRst = .next t)
      ∨ (∃ r, s.rst = .high :: r ∧ t = applyReset s.popRst)
      ∨ ∃ k r u, s.rst = .during k :: r ∧ exec (fetch s) s.popRst = .next u ∧ t = applyReset (cutAt k s.popRst u)) := by
  simp only [step, stepWith] at h
  split at h
  · refine ⟨‹_›, ?_⟩
    simp only [underReset] at h
    split at h
    · exact .inl ⟨‹_›, h⟩
    · exact .inr (.inl ⟨_, ‹_›, h⟩)
    · cases h
      exact .inr (.inr (.inl ⟨_, ‹_›, rfl⟩))
    · split at h
      · cases h
        exact .inr (.inr (.inr ⟨_, _, _, ‹_›, ‹_›, rfl⟩))
      · cases h
      · cases h
  · cases h

/-! ### Runs -/

@[simp] theorem run_zero (s : State) : Sys2Proof.core.run 0 s = .next s := rfl

/-- A run goes on from the state its first step answers. -/
theorem run_succ_of_next {s t : State} (n : Nat) (h : step s = .next t) :
    Sys2Proof.core.run (n + 1) s = Sys2Proof.core.run n t := by
  have hc : Sys2Proof.core.step s = .next t := h
  simp only [Host.Core.run, hc]

/-- The other way round: a run that answers has a first step that does. -/
theorem run_succ_next {s t : State} {n : Nat} (h : Sys2Proof.core.run (n + 1) s = .next t) :
    ∃ u, step s = .next u ∧ Sys2Proof.core.run n u = .next t := by
  cases hs : step s with
  | next u =>
    rw [run_succ_of_next n hs] at h
    exact ⟨u, rfl, h⟩
  | fault f => cases f
  | refused r =>
    have hc : Sys2Proof.core.step s = .refused r := hs
    simp only [Host.Core.run, hc] at h
    cases h

/-- What holds of a state and is kept by every step holds after every run (the induction, packaged once). -/
theorem run_keeps {Inv : State → Prop} (keep : ∀ s t, Inv s → step s = .next t → Inv t) (n : Nat) {s t : State}
    (hs : Inv s) (h : Sys2Proof.core.run n s = .next t) : Inv t := by
  induction n generalizing s with
  | zero =>
    rw [run_zero] at h
    cases h
    exact hs
  | succ n ih =>
    obtain ⟨u, hu, h⟩ := run_succ_next h
    exact ih (keep s u hs hu) h

/-- A run of `m` steps and then `n` more. -/
theorem run_add {s u : State} (m n : Nat) (h : Sys2Proof.core.run m s = .next u) :
    Sys2Proof.core.run (m + n) s = Sys2Proof.core.run n u := by
  induction m generalizing s with
  | zero =>
    rw [run_zero] at h
    cases h
    rw [Nat.zero_add]
  | succ m ih =>
    obtain ⟨v, hv, h⟩ := run_succ_next h
    rw [Nat.succ_add, run_succ_of_next _ hv, ih h]

end Sys2Proof.Machine
end

