-- ==== Sys2Proof/Laws/Effects.lean ====
section
/-!
SUPPORT. What an observer sees of each operation (10_state.md R20): the events of a sequence of attempts, of a framer
operation, of a handler and of an abandoned step; and what a handler leaves, over its body (R101 to R106).
-/
namespace Sys2Proof.Machine

/-! ### Events of a step -/

theorem newEvents_congr {s t u : State} (h : t.trace = u.trace) : newEvents s t = newEvents s u := by
  simp [newEvents, h]

theorem newEvents_base {s s' t : State} (h : s.trace = s'.trace) : newEvents s t = newEvents s' t := by
  simp [newEvents, h]

/-- The new trace is the old one and then the new events, when the trace has only grown. -/
theorem trace_eq_append_newEvents {s t : State} (h : s.trace <+: t.trace) : t.trace = s.trace ++ newEvents s t := by
  obtain ⟨x, hx⟩ := h
  simp [newEvents, ← hx]

/-- The attempts in a list of nothing but attempts. -/
@[simp] theorem attempts_map (l : List (Byte × Bool)) : attempts (l.map fun x => Event.attempt x.1 x.2) = l := by
  induction l with
  | nil => rfl
  | cons x l ih => simp [attempts]

/-- The events of a sequence of attempts. -/
theorem Emits.events {bytes : List Byte} {s t : State} {ok : Bool} (h : Emits bytes s ok t) :
    ∃ answers : List Bool, answers.length ≤ bytes.length
      ∧ newEvents s t = (bytes.zip answers).map (fun x => Event.attempt x.1 x.2)
      ∧ attempts (newEvents s t) = bytes.zip answers
      ∧ (ok = true ↔ answers.length = bytes.length ∧ ∀ a ∈ answers, a = true)
      ∧ (ok = false → answers.getLast? = some false)
      ∧ ∀ a ∈ answers.dropLast, a = true := by
  obtain ⟨answers, hlen, ht, hinit, hok, hno, -⟩ := h
  have hn : newEvents s t = (bytes.zip answers).map (fun x => Event.attempt x.1 x.2) :=
    newEvents_of_trace (by rw [ht])
  exact ⟨answers, hlen, hn, by rw [hn, attempts_map], hok, hno, hinit⟩

/-- A sequence of attempts takes no byte, delivers and stores nothing, and is no reset and no cursor fault. -/
theorem Emits.quiet {bytes : List Byte} {s t : State} {ok : Bool} (h : Emits bytes s ok t) :
    takenBytes (newEvents s t) = [] ∧ delivered (newEvents s t) = [] ∧ stores (newEvents s t) = []
      ∧ .reset ∉ newEvents s t ∧ .posFault ∉ newEvents s t := by
  obtain ⟨answers, -, hn, -⟩ := h.events
  rw [hn]
  simp [takenBytes, delivered, stores, List.filterMap_map]

/-- No byte to send is no attempt. -/
theorem Emits.nil (s : State) : Emits [] s true s := ⟨[], by simp⟩

/-- `error` plays no part in sending. -/
theorem Emits.of_setError {bytes : List Byte} {s t : State} {e ok : Bool} (h : Emits bytes (s.setError e) ok t) :
    Emits bytes s ok (t.setError s.error) := by
  obtain ⟨answers, hlen, ht, rest⟩ := h
  exact ⟨answers, hlen, by rw [ht]; rfl, rest⟩

/-- Place and `busy` play no part in sending. -/
theorem sendBytes_place (bs : List Byte) (s : State) (b : Bool) (p : Phase) :
    sendBytes bs { s with busy := b, phase := p }
      = ((sendBytes bs s).1, { (sendBytes bs s).2 with busy := b, phase := p }) := by
  induction bs generalizing s with
  | nil => rfl
  | cons x xs ih =>
    have h : txTry x { s with busy := b, phase := p }
        = ((txTry x s).1, { (txTry x s).2 with busy := b, phase := p }) := rfl
    simp only [sendBytes, h]
    split
    · rw [ih]
    · rfl

/-! ### Abandoned steps (R141) -/

theorem attempts_keepAttempts (k : Nat) (es : List Event) : attempts (keepAttempts k es) = (attempts es).take k := by
  induction es generalizing k with
  | nil => cases k <;> simp [keepAttempts, attempts]
  | cons e es ih =>
    simp only [attempts] at ih
    cases e <;> cases k <;> simp [keepAttempts, attempts, ih]

theorem keepAttempts_prefixed (k : Nat) (es : List Event) : keepAttempts k es <+: es := by
  induction es generalizing k with
  | nil => cases k <;> simp [keepAttempts]
  | cons e es ih => cases e <;> cases k <;> simp [keepAttempts, ih]

theorem countAttempts_eq (es : List Event) : countAttempts es = (attempts es).length := by
  induction es with
  | nil => rfl
  | cons e es ih => cases e <;> simp_all [countAttempts, attempts]

/-- What is seen of a step abandoned by a reset. -/
theorem newEvents_cutAt (k : Nat) (s u : State) :
    newEvents s (applyReset (cutAt k s u)) = keepAttempts k (newEvents s u) ++ [.reset] :=
  newEvents_of_trace (by simp [cutAt])

/-- What is seen of a reset. -/
theorem newEvents_applyReset (s : State) : newEvents s (applyReset s) = [.reset] := newEvents_of_trace (by simp)

/-! ### Handlers -/

/-- A handler whose body sends `bytes` (R101): the attempts, `error` from their result, then what follows. -/
theorem handler_emits (ack : Bool) (bytes : List Byte) (body : State → Bool × State) (s : State)
    (hbody : ∀ t : State, t.cfg = s.cfg → t.towerNumber = s.towerNumber → body t = sendBytes bytes t)
    (hb : s.busy = true) :
    ∃ ok u, Emits bytes s ok u
      ∧ handler ack body s = { u with error := !ok, busy := ack, phase := if ack then .epilogue else .handler } := by
  have h := (sendBytes_emits bytes (s.setError true)).of_setError
  refine ⟨_, _, h, ?_⟩
  have h1 : (sendBytes bytes (s.setError true)).2.busy = true := by rw [sendBytes_frame]; exact hb
  rw [handler_eq, hbody (s.setError true) rfl rfl]
  cases ack
  · rw [afterHandler_false]
    rfl
  · rw [afterHandler_true]
    revert h1
    generalize sendBytes bytes (s.setError true) = r
    intro h1
    simp [State.toEpilogue, State.setError, h1]

/-- The body of GET_STARTUP sends its three packets' bytes one after the other (R102). -/
theorem startup_body (s t : State) (hc : t.cfg = s.cfg) (hn : t.towerNumber = s.towerNumber) :
    andThen (andThen sendStartup sendVersion) sendTowerNumber t
      = sendBytes ((build s.cfg.cmdStartup s.cfg.startupP1 s.cfg.startupP2 s.cfg.startupP3).bytes
        ++ (build s.cfg.cmdVersion s.cfg.versionP1 s.cfg.versionP2 s.cfg.versionP3).bytes
        ++ (build s.cfg.cmdTowerNumber s.cfg.tnRespP1 (s.towerNumber.extractLsb' 0 8)
            (s.towerNumber.extractLsb' 8 8)).bytes) t := by
  have e1 : ∀ u : State, u.cfg = s.cfg → sendStartup u
      = sendBytes (build s.cfg.cmdStartup s.cfg.startupP1 s.cfg.startupP2 s.cfg.startupP3).bytes u := by
    intro u h
    simp [sendStartup, send, h]
  have e2 : ∀ u : State, u.cfg = s.cfg → sendVersion u
      = sendBytes (build s.cfg.cmdVersion s.cfg.versionP1 s.cfg.versionP2 s.cfg.versionP3).bytes u := by
    intro u h
    simp [sendVersion, send, h]
  have e3 : ∀ u : State, u.cfg = s.cfg → u.towerNumber = s.towerNumber → sendTowerNumber u
      = sendBytes (build s.cfg.cmdTowerNumber s.cfg.tnRespP1 (s.towerNumber.extractLsb' 0 8)
            (s.towerNumber.extractLsb' 8 8)).bytes u := by
    intro u h h'
    simp [sendTowerNumber, sendTowerBytes, send, h, h', lsb, msb]
  have kc : ∀ bs u, (sendBytes bs u).2.cfg = u.cfg := by intro bs u; rw [sendBytes_frame]
  have kn : ∀ bs u, (sendBytes bs u).2.towerNumber = u.towerNumber := by intro bs u; rw [sendBytes_frame]
  have two : andThen sendStartup sendVersion t
      = andThen (sendBytes (build s.cfg.cmdStartup s.cfg.startupP1 s.cfg.startupP2 s.cfg.startupP3).bytes)
          (sendBytes (build s.cfg.cmdVersion s.cfg.versionP1 s.cfg.versionP2 s.cfg.versionP3).bytes) t := by
    simp only [andThen]
    rw [e1 t hc, e2 _ (by rw [kc, hc])]
  rw [andThen, two, ← sendBytes_append, e3 _ (by rw [kc, hc]) (by rw [kn, hn])]
  exact (sendBytes_append _ _ t).symm

/-- The body of GET_VERSION (R103). -/
theorem version_body (s t : State) (hc : t.cfg = s.cfg) :
    sendVersion t = sendBytes (build s.cfg.cmdVersion s.cfg.versionP1 s.cfg.versionP2 s.cfg.versionP3).bytes t := by
  simp [sendVersion, send, hc]

/-- The body of TOWER_NUMBER GET (R104). -/
theorem towerNumber_body (s t : State) (hc : t.cfg = s.cfg) (hn : t.towerNumber = s.towerNumber) :
    sendTowerNumber t = sendBytes (build s.cfg.cmdTowerNumber s.cfg.tnRespP1 (s.towerNumber.extractLsb' 0 8)
      (s.towerNumber.extractLsb' 8 8)).bytes t := by
  simp [sendTowerNumber, sendTowerBytes, send, hc, hn, lsb, msb]

/-- The handler of TOWER_NUMBER SET (R105), over any value. -/
theorem handler_set (ack : Bool) (v : Word16) (s : State) (hb : s.busy = true) :
    handler ack (fun t => (true, nvStore .towerNumber v (t.setTowerNumber v))) s = { s with
      towerNumber := v
      storage := s.storage.map fun w => { w with towerNumber := v }
      trace := s.trace ++ [.nvStore .towerNumber v]
      error := false, busy := ack
      phase := if ack then .epilogue else .handler } := by
  rw [handler_eq]
  cases ack
  · simp [afterHandler, nvStore, State.endHandle, State.putStored, State.setError, State.setTowerNumber, State.emit,
      storagePut]
  · simp [afterHandler, nvStore, State.toEpilogue, State.putStored, State.setError, State.setTowerNumber, State.emit,
      storagePut, hb]

/-- The handler of UNMATCHED (R106). -/
theorem handler_unmatched (ack : Bool) (s : State) (hb : s.busy = true) :
    handler ack (fun t => (false, t)) s
      = { s with error := true, busy := ack, phase := if ack then .epilogue else .handler } := by
  rw [handler_eq]
  cases ack
  · rfl
  · simp [afterHandler, State.toEpilogue, State.setError, hb]

/-- The acknowledgment's command byte (R107), over the request's. -/
theorem ackCommand_codeField (e : Bool) (c : Byte) :
    ackCommand e (codeField c) = if e = false then c &&& 0x7F#8 ||| 0x80#8 else c &&& 0x7F#8 := by
  revert e c
  decide

/-- The shape of every step of the dispatcher: at most 15 attempts and new `error`, `busy` and place, or a SET. -/
theorem dispatcher_shape {s t : State} (hb : s.busy = true) (h : exec (fetch s) s = .next t) :
    (∃ bytes ok u e p b, Emits bytes s ok u ∧ bytes.length ≤ 15 ∧ t = { u with error := e, busy := b, phase := p })
    ∨ ∃ (e : Bool) (p : Phase) (b a : Bool) (p2 p3 : Byte), fetch s = .towerNumberSet a p2 p3
      ∧ t = { s with
          towerNumber := p3 ++ p2
          storage := s.storage.map fun w => { w with towerNumber := p3 ++ p2 }
          trace := s.trace ++ [.nvStore .towerNumber (p3 ++ p2)]
          error := e, busy := b
          phase := p } := by
  obtain ⟨hp, hf, he⟩ | ⟨hp, hf, he⟩ := dispatcher_cases s hb
  · rw [h] at he
    cases he
    obtain ⟨-, h⟩ | ⟨-, -, h⟩ | ⟨-, -, -, -, h⟩ | ⟨-, -, -, -, -, h⟩ | ⟨-, -, -, h⟩ :=
      decodeRequest_cases s.cfg s.latch <;> simp only [handlerBody, h]
    · obtain ⟨ok, u, he, hh⟩ := handler_emits (ackBit s.latch.cmd) _ _ s (startup_body s) hb
      exact .inl ⟨_, _, _, _, _, _, he, by simp [Packet.bytes], hh⟩
    · obtain ⟨ok, u, he, hh⟩ := handler_emits (ackBit s.latch.cmd) _ _ s (fun t hc _ => version_body s t hc) hb
      exact .inl ⟨_, _, _, _, _, _, he, by simp [Packet.bytes], hh⟩
    · obtain ⟨ok, u, he, hh⟩ := handler_emits (ackBit s.latch.cmd) _ _ s (towerNumber_body s) hb
      exact .inl ⟨_, _, _, _, _, _, he, by simp [Packet.bytes], hh⟩
    · rw [handler_set _ _ _ hb]
      rw [h] at hf
      exact .inr ⟨_, _, _, _, _, _, hf, rfl⟩
    · rw [handler_unmatched _ _ hb]
      exact .inl ⟨_, _, _, _, _, _, Emits.nil s, by simp, rfl⟩
  · rw [h] at he
    cases he
    by_cases ha : ackBit s.latch.cmd = true
    · simp only [acknowledge, ha, if_true]
      exact .inl ⟨_, _, _, _, _, _, send_emits _ _ _ _ s, by simp [Packet.bytes], rfl⟩
    · simp only [acknowledge, ha]
      exact .inl ⟨_, _, _, _, _, _, Emits.nil s, by simp, rfl⟩

/-! ### Framer -/

/-- The events of a framer operation: at most one byte taken, then a delivery or the cursor-fault indication. -/
theorem framer_events {s t : State} (hb : s.busy = false) (h : exec (fetch s) s = .next t) :
    t.trace = s.trace ++ newEvents s t
    ∧ ((fetch s = .idle ∧ newEvents s t = [])
      ∨ ∃ b, s.rxPeek = some b
        ∧ ((fetch s = .store ∧ newEvents s t = [.taken b])
          ∨ (fetch s = .complete ∧ newEvents s t = [.taken b, .deliver (s.buf.packet b)])
          ∨ (fetch s = .resync ∧ newEvents s t = [.taken b])
          ∨ ((fetch s = .defensive5 ∨ fetch s = .defensive67) ∧ newEvents s t = [.taken b, .posFault]))) := by
  have fin : ∀ es, t.trace = s.trace ++ es → newEvents s t = es := fun es h => newEvents_of_trace h
  obtain ⟨hp, hf, he⟩ | ⟨b, hp, ⟨h3, hf, he⟩ | ⟨h4, hx, hf, he⟩ | ⟨h4, hx, hf, he⟩ | ⟨h4, h5, he⟩⟩ :=
    framer_cases s hb <;> rw [he] at h <;> cases h
  · have hn := fin [] (by simp)
    exact ⟨by rw [hn]; simp, .inl ⟨hf, hn⟩⟩
  · have hn := fin [.taken b] (by simp)
    exact ⟨by rw [hn]; simp, .inr ⟨b, hp, .inl ⟨hf, hn⟩⟩⟩
  · have hn := fin [.taken b, .deliver (s.buf.packet b)] (by simp [deliver])
    exact ⟨by rw [hn]; simp [deliver], .inr ⟨b, hp, .inr (.inl ⟨hf, hn⟩)⟩⟩
  · have hn := fin [.taken b] (by simp)
    exact ⟨by rw [hn]; simp, .inr ⟨b, hp, .inr (.inr (.inl ⟨hf, hn⟩))⟩⟩
  · have hn := fin [.taken b, .posFault] (by simp [defensiveByte])
    refine ⟨by rw [hn]; simp [defensiveByte], .inr ⟨b, hp, .inr (.inr (.inr ⟨?_, hn⟩))⟩⟩
    exact h5.elim (fun h => .inl h.2) fun h => .inr h.2

end Sys2Proof.Machine
end

