-- ==== Sys2Proof/Laws/PerInstr.lean ====
section
/-!
SUPPORT. The per-instruction family `EncodedShape`: a framer operation is encoded in one byte whose high three bits are
clear, every other row in the five bytes of a valid frame (30_encoding.md R50, R51, R62, R63).
-/
namespace Sys2Proof.Laws.EncodedShape

/-- The shape of an instruction's words. -/
def Statement (i : Instr) : Prop :=
  ∀ c : Config,
    ((encode c i).1 = .poll ∧ ∃ q : Selector, (encode c i).2 = [q.toByte])
    ∨ ((encode c i).1 ≠ .poll ∧ ∃ p : Packet, p.valid = true ∧ (encode c i).2 = p.bytes)

/-- What `Build` makes is valid (R90). -/
theorem build_valid (c p1 p2 p3 : Byte) : (build c p1 p2 p3).valid = true := by
  simp [build, Packet.valid]

theorem getStartup (a : Bool) (p1 p2 p3 : Byte) : Statement (.getStartup a p1 p2 p3) := fun _ =>
  .inr ⟨by simp [encode], _, build_valid .., rfl⟩

theorem getVersion (a : Bool) (p1 p2 p3 : Byte) : Statement (.getVersion a p1 p2 p3) := fun _ =>
  .inr ⟨by simp [encode], _, build_valid .., rfl⟩

theorem towerNumberGet (a : Bool) (p2 p3 : Byte) : Statement (.towerNumberGet a p2 p3) := fun _ =>
  .inr ⟨by simp [encode], _, build_valid .., rfl⟩

theorem towerNumberSet (a : Bool) (p2 p3 : Byte) : Statement (.towerNumberSet a p2 p3) := fun _ =>
  .inr ⟨by simp [encode], _, build_valid .., rfl⟩

theorem unmatched (a : Bool) (code : BitVec 7) (p1 p2 p3 : Byte) : Statement (.unmatched a code p1 p2 p3) := fun _ =>
  .inr ⟨by simp [encode], _, build_valid .., rfl⟩

theorem ack (code : BitVec 7) (p1 p2 p3 : Byte) : Statement (.ack code p1 p2 p3) := fun _ =>
  .inr ⟨by simp [encode], _, build_valid .., rfl⟩

theorem idle : Statement .idle := fun _ => .inl ⟨rfl, _, rfl⟩

theorem store : Statement .store := fun _ => .inl ⟨rfl, _, rfl⟩

theorem complete : Statement .complete := fun _ => .inl ⟨rfl, _, rfl⟩

theorem resync : Statement .resync := fun _ => .inl ⟨rfl, _, rfl⟩

theorem defensive5 : Statement .defensive5 := fun _ => .inl ⟨rfl, _, rfl⟩

theorem defensive67 : Statement .defensive67 := fun _ => .inl ⟨rfl, _, rfl⟩

theorem startupPacket : Statement .startupPacket := fun _ => .inr ⟨by simp [encode], _, build_valid .., rfl⟩

theorem versionPacket : Statement .versionPacket := fun _ => .inr ⟨by simp [encode], _, build_valid .., rfl⟩

theorem towerNumberPacket (lo hi : Byte) : Statement (.towerNumberPacket lo hi) := fun _ =>
  .inr ⟨by simp [encode], _, build_valid .., rfl⟩

theorem ackPositive (code : BitVec 7) (p1 p2 p3 : Byte) : Statement (.ackPositive code p1 p2 p3) := fun _ =>
  .inr ⟨by simp [encode], _, build_valid .., rfl⟩

theorem ackNegative (code : BitVec 7) (p1 p2 p3 : Byte) : Statement (.ackNegative code p1 p2 p3) := fun _ =>
  .inr ⟨by simp [encode], _, build_valid .., rfl⟩

end Sys2Proof.Laws.EncodedShape
end

