-- ==== Sys2Proof/Tests/Slice0.lean ====
section
/-!
SUPPORT. Tests and witnesses. Expected results are the spec's: the vectors of 95_test_vectors.md (named F, B, V, E, Z, S, P
there), the examples of the rules, and the encodings of 30_encoding.md written out by hand. The witnesses show, for every
statement with hypotheses, a state and operands that meet them together.
-/
namespace Sys2Proof.Tests
open Sys2Proof Sys2Proof.Machine

/-! ### Small states -/

/-- The defaults of R4 with the reset words of vector Z1 and a Tower Mode. -/
def cfgA : Config := { Config.default with towerNumberReset := 0x0BAD#16, towerModeReset := 0x0001#16 }

/-- Program P7's configuration. -/
def cfgB : Config where
  cmdStartup := 0x10#8
  cmdVersion := 0x20#8
  cmdTowerNumber := 0x30#8
  subGet := 0xA0#8
  subSet := 0xA1#8
  startupP1 := 0x01#8
  startupP2 := 0x02#8
  startupP3 := 0x03#8
  versionP1 := 0x04#8
  versionP2 := 0x05#8
  versionP3 := 0x06#8
  tnRespP1 := 0xA0#8
  towerNumberReset := 0x0000#16
  towerModeReset := 0x0000#16

/-- An idle block with the register value of 95_test_vectors.md section 2.3 and a sink that accepts 20 attempts. -/
def base : State where
  pos := 0#3
  buf := ⟨0x00#8, 0x00#8, 0x00#8, 0x00#8, 0x00#8⟩
  towerNumber := 0xBEEF#16
  towerMode := 0x0001#16
  error := true
  busy := false
  latch := ⟨0x00#8, 0x00#8, 0x00#8, 0x00#8⟩
  phase := .handler
  cfg := cfgA
  rx := []
  sink := List.replicate 20 true
  storage := none
  rst := []
  trace := []
  draws := 0

/-- The framer at a cursor with a buffer, and the source's next answer. -/
def framerAt (p : BitVec 3) (f : Buf) (r : Option Byte) : State := { base with pos := p, buf := f, rx := [r] }

/-- Before the handler of a delivered request. -/
def handling (r : Request) (sink : List Bool) : State :=
  { base with busy := true, latch := r, sink := sink, trace := [.deliver (build r.cmd r.p1 r.p2 r.p3)] }

/-- Before the acknowledgment of a request, with `error` as its handler left it. -/
def acking (r : Request) (e : Bool) (sink : List Bool) : State := { handling r sink with phase := .epilogue, error := e }

/-- A sink that refuses attempt `k` only. -/
def refusing (k : Nat) : List Bool := (List.range 20).map fun i => i != k

/-- A sink that accepts everything a `Handle` can attempt. -/
def accepting : List Bool := List.replicate 20 true

/-- Looks at a result's next state. -/
def after {α : Type} (o : Result) (f : State → α) : Option α :=
  match o with
  | .next t => some (f t)
  | .fault _ => none
  | .refused _ => none

/-- What a step sent and how it left the flag and the register. -/
def sent (s t : State) : List Byte × Nat × Bool × Word16 :=
  (accepted (newEvents s t), (attempts (newEvents s t)).length, t.error, t.towerNumber)

/-! ### Well-formedness: the ill-formed terms, one for each way UNMATCHED can be ill formed (R55, R60) -/

theorem test_wf_refuses_startup_code : Instr.wf cfgA (.unmatched true 0x04#7 0x00#8 0x00#8 0x00#8) = false := by decide

theorem test_wf_refuses_version_code : Instr.wf cfgA (.unmatched false 0x09#7 0x00#8 0x00#8 0x00#8) = false := by decide

theorem test_wf_refuses_tower_number_get : Instr.wf cfgA (.unmatched false 0x0B#7 0x01#8 0x00#8 0x00#8) = false := by
  decide

theorem test_wf_refuses_tower_number_set : Instr.wf cfgA (.unmatched true 0x0B#7 0x02#8 0x00#8 0x00#8) = false := by
  decide

theorem test_wf_accepts_unknown_selector : Instr.wf cfgA (.unmatched true 0x0B#7 0x81#8 0x00#8 0x00#8) = true := by decide

/-! ### Configurations (R4, D19): each condition of `ConfigOK` broken once -/

theorem test_config_ok : cfgA.ok = true ∧ cfgB.ok = true := by decide

theorem test_config_codes_distinct :
    Config.ok { cfgA with cmdVersion := 0x04#8 } = false ∧ Config.ok { cfgA with cmdTowerNumber := 0x04#8 } = false
      ∧ Config.ok { cfgA with cmdTowerNumber := 0x09#8 } = false := by decide

theorem test_config_codes_have_seven_bits :
    Config.ok { cfgA with cmdStartup := 0x80#8 } = false ∧ Config.ok { cfgA with cmdVersion := 0x80#8 } = false
      ∧ Config.ok { cfgA with cmdTowerNumber := 0xFF#8 } = false
      ∧ Config.ok { cfgA with cmdStartup := 0x7F#8 } = true := by decide

theorem test_config_selectors_distinct : Config.ok { cfgA with subGet := 0x02#8 } = false := by decide

/-! ### Decoding: words written out from R50, R52, R59, R62 -/

/-- V1: `04 00 00 00 04`. -/
theorem test_decode_get_startup :
    (decode cfgA .rx [0x04#8, 0x00#8, 0x00#8, 0x00#8, 0x04#8]).toOption
      = some (.getStartup false 0x00#8 0x00#8 0x00#8) := by decide

/-- S4: `89 AA BB CC 54`. -/
theorem test_decode_get_version :
    (decode cfgA .rx [0x89#8, 0xAA#8, 0xBB#8, 0xCC#8, 0x54#8]).toOption
      = some (.getVersion true 0xAA#8 0xBB#8 0xCC#8) := by decide

/-- V8: `8B 01 55 AA 75`. -/
theorem test_decode_tower_number_get :
    (decode cfgA .rx [0x8B#8, 0x01#8, 0x55#8, 0xAA#8, 0x75#8]).toOption = some (.towerNumberGet true 0x55#8 0xAA#8) := by
  decide

/-- S5: `8B 02 34 12 AF`. -/
theorem test_decode_tower_number_set :
    (decode cfgA .rx [0x8B#8, 0x02#8, 0x34#8, 0x12#8, 0xAF#8]).toOption = some (.towerNumberSet true 0x34#8 0x12#8) := by
  decide

/-- S6: `FF 11 22 33 FF`. -/
theorem test_decode_unmatched :
    (decode cfgA .rx [0xFF#8, 0x11#8, 0x22#8, 0x33#8, 0xFF#8]).toOption
      = some (.unmatched true 0x7F#7 0x11#8 0x22#8 0x33#8) := by decide

/-- P7: `0B 02 34 12 2F` is no SET under another configuration. -/
theorem test_decode_other_configuration :
    (decode cfgB .rx [0x0B#8, 0x02#8, 0x34#8, 0x12#8, 0x2F#8]).toOption
      = some (.unmatched false 0x0B#7 0x02#8 0x34#8 0x12#8) := by decide

/-- R107's example `8B 03 34 12 AE`, read by the epilogue. -/
theorem test_decode_ack :
    (decode cfgA .epilogue [0x8B#8, 0x03#8, 0x34#8, 0x12#8, 0xAE#8]).toOption
      = some (.ack 0x0B#7 0x03#8 0x34#8 0x12#8) := by decide

/-- R62: `avail` bit 4, `pos` bits 3:1, `eq` bit 0, one word for each row, `pos` at its boundaries. -/
theorem test_decode_selectors :
    [0b00000#8, 0b01111#8, 0b10000#8, 0b10110#8, 0b11001#8, 0b11000#8, 0b11010#8, 0b11100#8, 0b11110#8].map
        (fun b => (decode cfgA .poll [b]).toOption)
      = [some .idle, some .idle, some .store, some .store, some .complete, some .resync, some .defensive5,
          some .defensive67, some .defensive67] := by decide

/-- B1, B2, B3, V10, V13's sent packets. -/
theorem test_decode_sent_packets :
    (decode cfgA (.tx .startup) [0x04#8, 0x00#8, 0x00#8, 0x00#8, 0x04#8]).toOption = some .startupPacket
    ∧ (decode cfgA (.tx .version) [0x09#8, 0x76#8, 0x01#8, 0x00#8, 0x7E#8]).toOption = some .versionPacket
    ∧ (decode cfgA (.tx .towerNumber) [0x0B#8, 0x01#8, 0x34#8, 0x12#8, 0x2C#8]).toOption
        = some (.towerNumberPacket 0x34#8 0x12#8)
    ∧ (decode cfgA (.tx .ackPositive) [0x8B#8, 0x02#8, 0x34#8, 0x12#8, 0xAF#8]).toOption
        = some (.ackPositive 0x0B#7 0x02#8 0x34#8 0x12#8)
    ∧ (decode cfgA (.tx .ackNegative) [0x0B#8, 0x00#8, 0x34#8, 0x12#8, 0x2D#8]).toOption
        = some (.ackNegative 0x0B#7 0x00#8 0x34#8 0x12#8) := by decide

/-- F8's block `8B 02 34 12 AE` fails the check; four bytes and six are no frame; `eq` alone does not make a selector of six
bits; the epilogue needs bit 7; a packet of another kind is refused. -/
theorem test_decode_rejects :
    [decode cfgA .rx [0x8B#8, 0x02#8, 0x34#8, 0x12#8, 0xAE#8], decode cfgA .rx [0x8B#8, 0x02#8, 0x34#8, 0x12#8],
      decode cfgA .rx [0x00#8, 0x00#8, 0x00#8, 0x00#8, 0x00#8, 0x00#8], decode cfgA .poll [0b100000#8],
      decode cfgA .epilogue [0x0B#8, 0x03#8, 0x34#8, 0x12#8, 0x2E#8],
      decode cfgA (.tx .version) [0x04#8, 0x00#8, 0x00#8, 0x00#8, 0x04#8]].map
        (fun r => match r with
          | .ok _ => none
          | .error e => some e)
      = [some .badChecksum, some .wrongLength, some .wrongLength, some .notASelector, some .noAckFlag,
          some .notThisPacket] := by decide

/-- R64's examples. -/
theorem test_assemble :
    assemble cfgA (.getVersion true 0x00#8 0x00#8 0x00#8) = ⟨0x89#8, 0x00#8, 0x00#8, 0x00#8, 0x89#8⟩
    ∧ assemble cfgA (.towerNumberSet true 0x1234#16) = ⟨0x8B#8, 0x02#8, 0x34#8, 0x12#8, 0xAF#8⟩
    ∧ assemble cfgA (.raw 0xFF#8 0x11#8 0x22#8 0x33#8) = ⟨0xFF#8, 0x11#8, 0x22#8, 0x33#8, 0xFF#8⟩ := by decide

/-- The table's numbering: 40 bits `0x8B023412AF`, 5 bits `0b11001`. -/
theorem test_decode_table_word :
    decodeTableWord 40 0x8B023412AF = some (.towerNumberSet true 0x34#8 0x12#8) ∧ decodeTableWord 8 0b11001 = some .complete
      ∧ decodeTableWord 16 0 = none := by decide

/-! ### The framer (95_test_vectors.md section 2.1) -/

/-- F2: nothing happens. -/
theorem test_idle :
    after (exec .idle (framerAt 2#3 ⟨0x8B#8, 0x02#8, 0x00#8, 0x00#8, 0x00#8⟩ none)) (fun t => (t.pos, t.buf, t.trace))
      = some (2#3, ⟨0x8B#8, 0x02#8, 0x00#8, 0x00#8, 0x00#8⟩, []) := by decide

/-- F16: nothing happens, even with the cursor out of range. -/
theorem test_idle_out_of_range :
    after (exec .idle (framerAt 5#3 ⟨0x11#8, 0x22#8, 0x33#8, 0x44#8, 0x55#8⟩ none)) (fun t => (t.pos, t.buf, t.trace))
      = some (5#3, ⟨0x11#8, 0x22#8, 0x33#8, 0x44#8, 0x55#8⟩, []) := by decide

/-- F6. -/
theorem test_store_last :
    after (exec .store (framerAt 3#3 ⟨0x8B#8, 0x02#8, 0x34#8, 0x00#8, 0x00#8⟩ (some 0x12#8))) (fun t => (t.pos, t.buf))
      = some (4#3, ⟨0x8B#8, 0x02#8, 0x34#8, 0x12#8, 0x00#8⟩) := by decide

/-- F13: over the shifted window. -/
theorem test_store_first :
    after (exec .store (framerAt 0#3 ⟨0x00#8, 0x01#8, 0x00#8, 0x09#8, 0x09#8⟩ (some 0x09#8))) (fun t => (t.pos, t.buf))
      = some (1#3, ⟨0x09#8, 0x01#8, 0x00#8, 0x09#8, 0x09#8⟩) := by decide

/-- F7. -/
theorem test_complete :
    after (exec .complete (framerAt 4#3 ⟨0x8B#8, 0x02#8, 0x34#8, 0x12#8, 0x00#8⟩ (some 0xAF#8)))
        (fun t => (t.pos, t.buf, t.busy, t.latch, delivered t.trace))
      = some (0#3, ⟨0x8B#8, 0x02#8, 0x34#8, 0x12#8, 0xAF#8⟩, true, ⟨0x8B#8, 0x02#8, 0x34#8, 0x12#8⟩,
          [⟨0x8B#8, 0x02#8, 0x34#8, 0x12#8, 0xAF#8⟩]) := by decide

/-- F11: the old `buf[4]` is overwritten. -/
theorem test_complete_overwrites :
    after (exec .complete (framerAt 4#3 ⟨0xFF#8, 0xFF#8, 0xFF#8, 0xFF#8, 0x12#8⟩ (some 0x00#8)))
        (fun t => (t.pos, t.buf, t.rx))
      = some (0#3, ⟨0xFF#8, 0xFF#8, 0xFF#8, 0xFF#8, 0x00#8⟩, []) := by decide

/-- F8. -/
theorem test_resync :
    after (exec .resync (framerAt 4#3 ⟨0x8B#8, 0x02#8, 0x34#8, 0x12#8, 0x00#8⟩ (some 0xAE#8)))
        (fun t => (t.pos, t.buf, t.busy, t.trace))
      = some (0#3, ⟨0x02#8, 0x34#8, 0x12#8, 0xAE#8, 0xAE#8⟩, false, [.taken 0xAE#8]) := by decide

/-- F19: the checksum of the un-flagged request does not fit. -/
theorem test_resync_ack_flag :
    after (exec .resync (framerAt 4#3 ⟨0x84#8, 0x00#8, 0x00#8, 0x00#8, 0x00#8⟩ (some 0x04#8))) (fun t => (t.pos, t.buf))
      = some (0#3, ⟨0x00#8, 0x00#8, 0x00#8, 0x04#8, 0x04#8⟩) := by decide

/-- R75 at `pos == 5`. -/
theorem test_defensive5 :
    after (exec .defensive5 (framerAt 5#3 ⟨0x11#8, 0x22#8, 0x33#8, 0x44#8, 0x55#8⟩ (some 0x77#8)))
        (fun t => (t.pos, t.buf, t.trace))
      = some (0#3, ⟨0x11#8, 0x22#8, 0x33#8, 0x44#8, 0x55#8⟩, [.taken 0x77#8, .posFault]) := by decide

/-- F15. -/
theorem test_defensive6 :
    after (exec .defensive67 (framerAt 6#3 ⟨0x11#8, 0x22#8, 0x33#8, 0x44#8, 0x55#8⟩ (some 0x77#8)))
        (fun t => (t.pos, t.buf, t.rx))
      = some (0#3, ⟨0x11#8, 0x22#8, 0x33#8, 0x44#8, 0x55#8⟩, []) := by decide

/-- F17. -/
theorem test_defensive7 :
    after (exec .defensive67 (framerAt 7#3 ⟨0x11#8, 0x22#8, 0x33#8, 0x44#8, 0x55#8⟩ (some 0x00#8)))
        (fun t => (t.pos, t.buf))
      = some (0#3, ⟨0x11#8, 0x22#8, 0x33#8, 0x44#8, 0x55#8⟩) := by decide

/-! ### The dispatcher (95_test_vectors.md sections 2.3 and 2.4) -/

/-- V1: 15 bytes, the register's low byte before its high byte, no acknowledgment to come. -/
theorem test_get_startup :
    after (exec (.getStartup false 0x00#8 0x00#8 0x00#8) (handling ⟨0x04#8, 0x00#8, 0x00#8, 0x00#8⟩ accepting))
        (fun t => (sent (handling ⟨0x04#8, 0x00#8, 0x00#8, 0x00#8⟩ accepting) t, t.busy))
      = some (([0x04#8, 0x00#8, 0x00#8, 0x00#8, 0x04#8, 0x09#8, 0x76#8, 0x01#8, 0x00#8, 0x7E#8, 0x0B#8, 0x01#8, 0xEF#8,
          0xBE#8, 0x5B#8], 15, false, 0xBEEF#16), false) := by decide

/-- E4, the handler's part: the first byte of the second packet is refused. -/
theorem test_get_startup_refused :
    after (exec (.getStartup true 0x00#8 0x00#8 0x00#8) (handling ⟨0x84#8, 0x00#8, 0x00#8, 0x00#8⟩ (refusing 5)))
        (fun t => (sent (handling ⟨0x84#8, 0x00#8, 0x00#8, 0x00#8⟩ (refusing 5)) t, t.busy, t.phase))
      = some (([0x04#8, 0x00#8, 0x00#8, 0x00#8, 0x04#8], 6, true, 0xBEEF#16), true, .epilogue) := by decide

/-- V4 with S4's parameters. -/
theorem test_get_version :
    after (exec (.getVersion true 0xAA#8 0xBB#8 0xCC#8) (handling ⟨0x89#8, 0xAA#8, 0xBB#8, 0xCC#8⟩ accepting))
        (sent (handling ⟨0x89#8, 0xAA#8, 0xBB#8, 0xCC#8⟩ accepting))
      = some ([0x09#8, 0x76#8, 0x01#8, 0x00#8, 0x7E#8], 5, false, 0xBEEF#16) := by decide

/-- E18. -/
theorem test_get_version_refused :
    after (exec (.getVersion false 0x00#8 0x00#8 0x00#8) (handling ⟨0x09#8, 0x00#8, 0x00#8, 0x00#8⟩ (refusing 2)))
        (sent (handling ⟨0x09#8, 0x00#8, 0x00#8, 0x00#8⟩ (refusing 2)))
      = some ([0x09#8, 0x76#8], 3, true, 0xBEEF#16) := by decide

/-- V8, the handler's part. -/
theorem test_tower_number_get :
    after (exec (.towerNumberGet true 0x55#8 0xAA#8) (handling ⟨0x8B#8, 0x01#8, 0x55#8, 0xAA#8⟩ accepting))
        (sent (handling ⟨0x8B#8, 0x01#8, 0x55#8, 0xAA#8⟩ accepting))
      = some ([0x0B#8, 0x01#8, 0xEF#8, 0xBE#8, 0x5B#8], 5, false, 0xBEEF#16) := by decide

/-- E17, the handler's part: attempt 4 is refused. -/
theorem test_tower_number_get_refused :
    after (exec (.towerNumberGet true 0x00#8 0x00#8) (handling ⟨0x8B#8, 0x01#8, 0x00#8, 0x00#8⟩ (refusing 4)))
        (sent (handling ⟨0x8B#8, 0x01#8, 0x00#8, 0x00#8⟩ (refusing 4)))
      = some ([0x0B#8, 0x01#8, 0xEF#8, 0xBE#8], 5, true, 0xBEEF#16) := by decide

/-- V10, the handler's part: the register, one store, nothing sent. -/
theorem test_tower_number_set :
    after (exec (.towerNumberSet true 0x34#8 0x12#8) (handling ⟨0x8B#8, 0x02#8, 0x34#8, 0x12#8⟩ accepting))
        (fun t => (sent (handling ⟨0x8B#8, 0x02#8, 0x34#8, 0x12#8⟩ accepting) t, stores t.trace))
      = some (([], 0, false, 0x1234#16), [(.towerNumber, 0x1234#16)]) := by decide

/-- V13: sub-selector 00 is unmatched; nothing is sent by the handler. -/
theorem test_unmatched :
    after (exec (.unmatched true 0x0B#7 0x00#8 0x34#8 0x12#8) (handling ⟨0x8B#8, 0x00#8, 0x34#8, 0x12#8⟩ accepting))
        (fun t => (sent (handling ⟨0x8B#8, 0x00#8, 0x34#8, 0x12#8⟩ accepting) t, t.phase))
      = some (([], 0, true, 0xBEEF#16), .epilogue) := by decide

/-- V2's last packet: the positive acknowledgment is the request. -/
theorem test_ack_positive :
    after (exec (.ack 0x04#7 0x01#8 0x02#8 0x03#8) (acking ⟨0x84#8, 0x01#8, 0x02#8, 0x03#8⟩ false accepting))
        (fun t => (sent (acking ⟨0x84#8, 0x01#8, 0x02#8, 0x03#8⟩ false accepting) t, t.busy))
      = some (([0x84#8, 0x01#8, 0x02#8, 0x03#8, 0x84#8], 5, false, 0xBEEF#16), false) := by decide

/-- V13's last packet, with the refusal of E16: negative, cut at the refused byte, the flag left alone. -/
theorem test_ack_negative_refused :
    after (exec (.ack 0x0B#7 0x00#8 0x34#8 0x12#8) (acking ⟨0x8B#8, 0x00#8, 0x34#8, 0x12#8⟩ true (refusing 3)))
        (fun t => (sent (acking ⟨0x8B#8, 0x00#8, 0x34#8, 0x12#8⟩ true (refusing 3)) t, t.busy))
      = some (([0x0B#8, 0x00#8, 0x34#8], 4, true, 0xBEEF#16), false) := by decide

/-! ### The packets sent (sections 2.2, 2.3) -/

/-- B1. -/
theorem test_startup_packet :
    after (exec .startupPacket { base with busy := true }) (fun t => (accepted t.trace, t.towerNumber))
      = some ([0x04#8, 0x00#8, 0x00#8, 0x00#8, 0x04#8], 0xBEEF#16) := by decide

/-- B16: the third attempt is refused, two bytes are in the stream. -/
theorem test_version_packet :
    after (exec .versionPacket { base with busy := true, sink := refusing 2 })
        (fun t => (accepted t.trace, (attempts t.trace).length))
      = some ([0x09#8, 0x76#8], 3) := by decide

/-- B3. -/
theorem test_tower_number_packet :
    after (exec (.towerNumberPacket 0x34#8 0x12#8) { base with busy := true }) (fun t => accepted t.trace)
      = some [0x0B#8, 0x01#8, 0x34#8, 0x12#8, 0x2C#8] := by decide

/-- B4. -/
theorem test_ack_positive_packet :
    after (exec (.ackPositive 0x0B#7 0x02#8 0x34#8 0x12#8) { base with busy := true }) (fun t => accepted t.trace)
      = some [0x8B#8, 0x02#8, 0x34#8, 0x12#8, 0xAF#8] := by decide

/-- B8. -/
theorem test_ack_negative_packet :
    after (exec (.ackNegative 0x7F#7 0x11#8 0x22#8 0x33#8) { base with busy := true }) (fun t => accepted t.trace)
      = some [0x7F#8, 0x11#8, 0x22#8, 0x33#8, 0x7F#8] := by decide

/-! ### Reset (section 2.5) -/

/-- Z1, through a step. -/
theorem test_reset :
    after (step { framerAt 3#3 ⟨0x8B#8, 0x02#8, 0x34#8, 0x00#8, 0x00#8⟩ (some 0x12#8) with
        towerNumber := 0x1234#16, rst := [.high] })
        (fun t => ((t.pos, t.towerNumber, t.towerMode), t.busy, t.error))
      = some ((0#3, 0x0BAD#16, 0x0001#16), false, true) := by decide

/-- R141: reset after the second attempt of a Version packet leaves a truncated frame. -/
theorem test_reset_inside_handle :
    after (step { handling ⟨0x89#8, 0x00#8, 0x00#8, 0x00#8⟩ accepting with rst := [.during 2] })
        (fun t => (accepted t.trace, (attempts t.trace).length, t.busy, t.sink.length))
      = some ([0x09#8, 0x76#8], 2, false, 18) := by decide

end Sys2Proof.Tests
end

