-- ==== Sys2Proof/Tests/Witnesses.lean ====
section
/-!
SUPPORT. One witness for every statement with hypotheses: a state and operands that meet them together, each clause at a
boundary of its range.
-/
namespace Sys2Proof.Tests
open Sys2Proof Sys2Proof.Machine

theorem cfgA_ok : cfgA.ok = true := by decide

theorem base_running : Running base := ⟨by decide, rfl⟩

theorem framerAt_running (p : BitVec 3) (f : Buf) (r : Option Byte) : Running (framerAt p f r) := ⟨cfgA_ok, rfl⟩

theorem handling_running (r : Request) (k : List Bool) : Running (handling r k) := ⟨cfgA_ok, rfl⟩

theorem acking_running (r : Request) (e : Bool) (k : List Bool) : Running (acking r e k) := ⟨cfgA_ok, rfl⟩

/-- V7's request. -/
def getReq : Request := ⟨0x8B#8, 0x01#8, 0x00#8, 0x00#8⟩

/-- V10's request. -/
def setReq : Request := ⟨0x8B#8, 0x02#8, 0x34#8, 0x12#8⟩

/-- V2's request. -/
def startupReq : Request := ⟨0x84#8, 0x00#8, 0x00#8, 0x00#8⟩

/-- V16's request. -/
def unmatchedReq : Request := ⟨0xFF#8, 0x00#8, 0x00#8, 0x00#8⟩

/-- F7 before its byte. -/
def atComplete : State := framerAt 4#3 ⟨0x8B#8, 0x02#8, 0x34#8, 0x12#8, 0x00#8⟩ (some 0xAF#8)

/-! ### Encoding -/

theorem witness_DecodeInvertsEncode :
    ∃ (c : Config) (i : Instr), c.ok = true ∧ i.wf c = true ∧ i = .unmatched true 0x0B#7 0x03#8 0xFF#8 0x00#8 :=
  ⟨cfgA, _, by decide, by decide, rfl⟩

theorem witness_ReceivedFrameReencodes :
    ∃ (c : Config) (bs : List Byte) (i : Instr), c.ok = true ∧ decode c .rx bs = .ok i :=
  ⟨cfgA, [0x8B#8, 0x02#8, 0x34#8, 0x12#8, 0xAF#8], .towerNumberSet true 0x34#8 0x12#8, by decide, by rfl⟩

theorem witness_DecodeIsFiveWay :
    cfgA.ok = true ∧ 0x84#8 &&& 0x7F#8 = cfgA.cmdStartup ∧ 0x89#8 &&& 0x7F#8 = cfgA.cmdVersion
      ∧ 0x8B#8 &&& 0x7F#8 = cfgA.cmdTowerNumber ∧ cfgA.subGet ≠ cfgA.subSet ∧ 0xFF#8 &&& 0x7F#8 ≠ cfgA.cmdStartup
      ∧ 0xFF#8 &&& 0x7F#8 ≠ cfgA.cmdVersion ∧ 0xFF#8 &&& 0x7F#8 ≠ cfgA.cmdTowerNumber := by decide

theorem witness_SubSelectorComparesEveryBit :
    ∃ (c : Config) (r : Request), c.ok = true ∧ r.cmd &&& 0x7F#8 = c.cmdTowerNumber ∧ r.p1 = c.subGet ^^^ 0x80#8 :=
  ⟨cfgA, ⟨0x8B#8, 0x81#8, 0x00#8, 0x00#8⟩, by decide, by decide, by decide⟩

theorem witness_OnlyValidFramesDecode :
    ([0x00#8, 0x00#8, 0x00#8, 0x00#8] : List Byte).length ≠ 5
      ∧ (0x8B#8 ^^^ 0x02#8 ^^^ 0x34#8 ^^^ 0x12#8 ≠ 0xAE#8) ∧ 0x8B#8 ^^^ 0x02#8 ^^^ 0x34#8 ^^^ 0x12#8 = 0xAF#8 := by decide

theorem witness_ValidFrameIsXorZero : ∃ s t : State, step s = .next t ∧ delivered (newEvents s t) ≠ [] :=
  ⟨atComplete, _, rfl, by decide⟩

theorem witness_SelectorTable :
    [framerAt 7#3 base.buf none, framerAt 0#3 base.buf (some 0x8B#8), framerAt 3#3 base.buf (some 0x8B#8), atComplete,
      framerAt 4#3 base.buf (some 0x01#8), framerAt 5#3 base.buf (some 0x01#8), framerAt 6#3 base.buf (some 0x01#8),
      framerAt 7#3 base.buf (some 0x01#8)].map (fun s => (s.busy, fetch s))
      = [(false, .idle), (false, .store), (false, .store), (false, .complete), (false, .resync), (false, .defensive5),
          (false, .defensive67), (false, .defensive67)] := by decide

theorem witness_TextAssemblesToItsCommand : ∃ c : Config, c.ok = true := ⟨cfgB, by decide⟩

/-! ### The step -/

theorem witness_StepRunsFetched :
    (∃ s : State, s.cfg.ok = true ∧ s.rst = []) ∧ ∃ (s : State) (r : List RstInput), s.cfg.ok = true ∧ s.rst = .low :: r :=
  ⟨⟨base, by decide, rfl⟩, { base with rst := [.low] }, [], by decide, rfl⟩

theorem witness_FetchIsDecode :
    ∃ (s : State) (p : Packet), s.busy = true ∧ s.phase = .handler ∧ p.valid = true ∧ s.latch = p.request :=
  ⟨handling setReq accepting, ⟨0x8B#8, 0x02#8, 0x34#8, 0x12#8, 0xAF#8⟩, rfl, rfl, by decide, rfl⟩

theorem witness_EveryStepAnswers :
    ∃ s : State, s.cfg.ok = true ∧ s.rx = [some 0x00#8] ∧ s.pos = 7#3 ∧ s.rst = [.during 3] :=
  ⟨{ framerAt 7#3 base.buf (some 0x00#8) with rst := [.during 3] }, by decide, rfl, rfl, rfl⟩

theorem witness_RefusedConditions :
    (∃ s : State, s.cfg.ok = false)
    ∧ (∃ (i : Instr) (s : State), s.busy = true ∧ isFramerOp i = true)
    ∧ (∃ (i : Instr) (s : State), s.busy = true ∧ isCommand i = true ∧ s.phase = .epilogue)
    ∧ ∃ (i : Instr) (s : State), s.busy = true ∧ isCommand i = true ∧ s.phase = .handler ∧ fetch s ≠ i :=
  ⟨⟨{ base with cfg := { cfgA with cmdVersion := 0x04#8 } }, by decide⟩, ⟨.idle, handling setReq [], rfl, rfl⟩,
    ⟨.towerNumberSet true 0x34#8 0x12#8, acking setReq false [], rfl, rfl, rfl⟩,
    .getStartup true 0x00#8 0x00#8 0x00#8, handling setReq [], rfl, rfl, rfl, by decide⟩

theorem witness_ResetWrites :
    (∃ (s : State) (r : List RstInput), s.cfg.ok = true ∧ s.rst = .high :: r ∧ s.storage = none)
    ∧ ∃ (s : State) (r : List RstInput), s.cfg.ok = true ∧ s.rst = .high :: r ∧ s.storage.isSome = true :=
  ⟨⟨{ base with rst := [.high] }, [], by decide, rfl, rfl⟩,
    { base with rst := [.high], storage := some ⟨0x1234#16, 0x5678#16⟩ }, [], by decide, rfl, rfl⟩

/-- Reset inside a handler that sends 15 bytes: before the first attempt, between, after the last. -/
theorem witness_ResetInsideHandle :
    ∀ k ∈ [0, 7, 15], ∃ s : State, s.cfg.ok = true ∧ s.rst = [.during k] ∧ s.busy = true :=
  fun k _ => ⟨{ handling startupReq accepting with rst := [.during k] }, cfgA_ok, rfl, rfl⟩

/-! ### The framer -/

theorem witness_IdleChangesNothing :
    (∃ s : State, s.busy = false ∧ s.rxPeek = none ∧ s.pos = 7#3) ∧ ∃ s : State, s.busy = false ∧ s.rx = [] :=
  ⟨⟨framerAt 7#3 base.buf none, rfl, rfl, rfl⟩, base, rfl, rfl⟩

theorem witness_StoreWritesOneSlot :
    ∀ p ∈ [0#3, 3#3], ∃ (s : State) (b : Byte) (r : List (Option Byte)),
      s.busy = false ∧ s.rx = some b :: r ∧ s.pos = p ∧ s.pos ≤ 3#3 := by
  intro p hp
  refine ⟨framerAt p base.buf (some 0xFF#8), _, _, rfl, rfl, rfl, ?_⟩
  revert p
  decide

theorem witness_CompleteDelivers :
    ∃ (s : State) (b : Byte) (r : List (Option Byte)), s.busy = false ∧ s.rx = some b :: r ∧ s.pos = 4#3
      ∧ s.buf.b0 ^^^ s.buf.b1 ^^^ s.buf.b2 ^^^ s.buf.b3 = b :=
  ⟨atComplete, _, _, rfl, rfl, rfl, by decide⟩

theorem witness_ResyncShifts :
    ∃ (s : State) (b : Byte) (r : List (Option Byte)), s.busy = false ∧ s.rx = some b :: r ∧ s.pos = 4#3
      ∧ s.buf.b0 ^^^ s.buf.b1 ^^^ s.buf.b2 ^^^ s.buf.b3 ≠ b :=
  ⟨framerAt 4#3 ⟨0x8B#8, 0x02#8, 0x34#8, 0x12#8, 0x00#8⟩ (some 0xAE#8), _, _, rfl, rfl, rfl, by decide⟩

theorem witness_DefensiveDropsByte :
    ∀ p ∈ [5#3, 6#3, 7#3], ∃ (s : State) (b : Byte) (r : List (Option Byte)),
      s.busy = false ∧ s.rx = some b :: r ∧ s.pos = p :=
  fun p _ => ⟨framerAt p base.buf (some 0x55#8), _, _, rfl, rfl, rfl⟩

theorem witness_FramerFrame :
    (∃ s t : State, isFramerOp .resync = true ∧ exec .resync s = .next t)
    ∧ (∃ s t : State, isFramerOp .idle = true ∧ exec .idle s = .next t)
    ∧ ∃ s t : State, isFramerOp .defensive67 = true ∧ exec .defensive67 s = .next t :=
  ⟨⟨framerAt 4#3 base.buf (some 0x01#8), _, rfl, rfl⟩, ⟨base, _, rfl, rfl⟩,
    framerAt 6#3 base.buf (some 0x01#8), _, rfl, rfl⟩

theorem witness_PollMatchesPseudocode :
    (∃ s : State, Running s ∧ s.busy = false ∧ fetch s = .complete) ∧ ∃ s : State, s.busy = true ∧ isFramerOp .idle = true :=
  ⟨⟨atComplete, framerAt_running .., rfl, by decide⟩, handling setReq accepting, rfl, rfl⟩

theorem witness_StepKeepsCursorLegal : ∃ s t : State, CursorLegal s ∧ s.pos = 4#3 ∧ step s = .next t :=
  ⟨atComplete, _, by unfold CursorLegal; decide, rfl, rfl⟩

theorem witness_StepKeepsDeliveredValid :
    ∃ s t : State, DeliveredValid s ∧ step s = .next t ∧ delivered s.trace ≠ [] :=
  ⟨handling setReq accepting, _, by unfold DeliveredValid; decide, rfl, by decide⟩

/-- Six bytes taken, the first five of them delivered, the sixth stored. -/
def alignedState : State :=
  { framerAt 1#3 ⟨0x0B#8, 0x02#8, 0x34#8, 0x12#8, 0xAF#8⟩ (some 0x01#8) with
    trace := [.taken 0x8B#8, .taken 0x02#8, .taken 0x34#8, .taken 0x12#8, .taken 0xAF#8,
      .deliver ⟨0x8B#8, 0x02#8, 0x34#8, 0x12#8, 0xAF#8⟩, .taken 0x0B#8] }

theorem witness_StepKeepsAlignment : ∃ s t : State, Aligned s ∧ step s = .next t ∧ s.pos = 1#3 :=
  ⟨alignedState, _, by unfold Aligned; decide, rfl, rfl⟩

/-- A run of one step that takes a byte. -/
theorem witness_RunDeliversItsValidBlocks :
    ∃ t : State, Sys2Proof.core.run 1
      { State.reset with
        cfg := cfgA, rx := [some 0x8B#8], sink := [], storage := none, rst := [] } = .next t :=
  ⟨_, rfl⟩

theorem witness_FreshFramerDeliversBuiltFrame :
    ∃ (s : State) (c a d e : Byte) (polls rest : List (Option Byte)), Running s ∧ s.busy = false ∧ s.pos = 0#3
      ∧ polls.filterMap id = [c, a, d, e, c ^^^ a ^^^ d ^^^ e] ∧ polls.getLast? ≠ some none ∧ s.rx = polls ++ rest :=
  ⟨{ base with rx := [none, some 0x0B#8, some 0x01#8, none, some 0x34#8, some 0x12#8, some 0x2C#8, some 0xFF#8] },
    0x0B#8, 0x01#8, 0x34#8, 0x12#8, [none, some 0x0B#8, some 0x01#8, none, some 0x34#8, some 0x12#8, some 0x2C#8],
    [some 0xFF#8], ⟨by decide, rfl⟩, rfl, rfl, by decide, by decide, rfl⟩

/-- S2's corruption, of byte 2, and corruptions of the first and the last byte. -/
theorem witness_CorruptedByteCostsOneFrame :
    ∀ x ∈ [(0, (⟨0x0A#8, 0x00#8, 0x00#8, 0x00#8, 0x09#8⟩ : Packet)), (2, ⟨0x09#8, 0x00#8, 0x01#8, 0x00#8, 0x09#8⟩),
        (4, ⟨0x09#8, 0x00#8, 0x00#8, 0x00#8, 0x08#8⟩)],
      ∃ (s : State) (good next : Packet) (rest : List (Option Byte)), Running s ∧ s.busy = false ∧ s.pos = 0#3
        ∧ good.valid = true ∧ next.valid = true ∧ x.1 < 5 ∧ (∀ i < 5, (x.2.bytes[i]? = good.bytes[i]?) ↔ i ≠ x.1)
        ∧ s.rx = x.2.bytes.map some ++ next.bytes.map some ++ rest := by
  intro x hx
  refine ⟨{ base with rx := x.2.bytes.map some ++ (Packet.bytes ⟨0x09#8, 0x00#8, 0x00#8, 0x00#8, 0x09#8⟩).map some ++ [] },
    ⟨0x09#8, 0x00#8, 0x00#8, 0x00#8, 0x09#8⟩, ⟨0x09#8, 0x00#8, 0x00#8, 0x00#8, 0x09#8⟩, [], ⟨cfgA_ok, rfl⟩, rfl, rfl,
    by decide, by decide, ?_, ?_, rfl⟩ <;> revert x <;> decide

/-- The two corruptions of 95_test_vectors.md section 2.1 that cancel. -/
theorem witness_CorruptedByteCostsOneFrame_cancel :
    ∃ (s : State) (rest : List (Option Byte)), Running s ∧ s.busy = false ∧ s.pos = 0#3
      ∧ s.rx = (Packet.bytes ⟨0x8A#8, 0x03#8, 0x34#8, 0x12#8, 0xAF#8⟩).map some ++ rest :=
  ⟨{ base with rx := (Packet.bytes ⟨0x8A#8, 0x03#8, 0x34#8, 0x12#8, 0xAF#8⟩).map some ++ [] }, [], ⟨cfgA_ok, rfl⟩, rfl, rfl,
    rfl⟩

/-! ### The builder -/

theorem witness_SentPacketsAreTheirRows : (∃ s : State, s.busy = true) ∧ ∃ s : State, s.busy = false :=
  ⟨⟨handling startupReq (refusing 0), rfl⟩, base, rfl⟩

theorem witness_SentPacketFrame :
    ∃ s t : State, isSentPacket .versionPacket = true ∧ exec .versionPacket s = .next t :=
  ⟨handling startupReq (refusing 2), _, rfl, rfl⟩

theorem witness_OnlyWholeFramesOrCutOnes :
    ∃ s t : State, Running s ∧ step s = .next t ∧ (attempts (newEvents s t)).length = 6 :=
  ⟨handling startupReq (refusing 5), _, handling_running .., rfl, by decide⟩

theorem witness_TransmitsOnlyInsideHandle :
    (∃ s t : State, step s = .next t ∧ attempts (newEvents s t) ≠ [])
    ∧ ∃ t : State, Sys2Proof.core.run 1
        { State.reset with
          cfg := cfgA, rx := [some 0x8B#8], sink := [], storage := none, rst := [] } = .next t ∧ delivered t.trace = [] :=
  ⟨⟨handling startupReq accepting, _, rfl, by decide⟩, _, rfl, by rfl⟩

/-! ### The dispatcher -/

theorem witness_GetStartupSendsThree :
    ∃ s : State, s.cfg.ok = true ∧ s.busy = true ∧ s.phase = .handler ∧ s.latch.cmd &&& 0x7F#8 = s.cfg.cmdStartup :=
  ⟨handling startupReq (refusing 5), by decide, rfl, rfl, by decide⟩

theorem witness_GetVersionSendsVersion :
    ∃ s : State, s.cfg.ok = true ∧ s.busy = true ∧ s.phase = .handler ∧ s.latch.cmd &&& 0x7F#8 = s.cfg.cmdVersion :=
  ⟨handling ⟨0x89#8, 0xAA#8, 0xBB#8, 0xCC#8⟩ accepting, by decide, rfl, rfl, by decide⟩

theorem witness_TowerNumberGetSendsCurrent :
    ∃ s : State, s.cfg.ok = true ∧ s.busy = true ∧ s.phase = .handler
      ∧ s.latch.cmd &&& 0x7F#8 = s.cfg.cmdTowerNumber ∧ s.latch.p1 = s.cfg.subGet :=
  ⟨handling getReq accepting, by decide, rfl, rfl, by decide, rfl⟩

theorem witness_TowerNumberSetWrites :
    ∃ s : State, s.cfg.ok = true ∧ s.busy = true ∧ s.phase = .handler
      ∧ s.latch.cmd &&& 0x7F#8 = s.cfg.cmdTowerNumber ∧ s.latch.p1 = s.cfg.subSet :=
  ⟨handling setReq accepting, by decide, rfl, rfl, by decide, rfl⟩

/-- Both ways not to match: a code that is none of the three, and TOWER_NUMBER with an unknown sub-selector. -/
theorem witness_UnmatchedDoesNothing :
    ∀ r ∈ [unmatchedReq, ⟨0x8B#8, 0x03#8, 0x34#8, 0x12#8⟩],
      ∃ s : State, s.busy = true ∧ s.phase = .handler ∧ s.latch = r ∧ s.latch.cmd &&& 0x7F#8 ≠ s.cfg.cmdStartup
        ∧ s.latch.cmd &&& 0x7F#8 ≠ s.cfg.cmdVersion
        ∧ ¬(s.latch.cmd &&& 0x7F#8 = s.cfg.cmdTowerNumber ∧ (s.latch.p1 = s.cfg.subGet ∨ s.latch.p1 = s.cfg.subSet)) := by
  intro r hr
  refine ⟨handling r accepting, rfl, rfl, rfl, ?_⟩
  revert r
  decide

theorem witness_AckEpilogue :
    (∃ s : State, s.busy = true ∧ s.phase = .epilogue ∧ ackBit s.latch.cmd = true ∧ s.error = false)
    ∧ (∃ s : State, s.busy = true ∧ s.phase = .epilogue ∧ ackBit s.latch.cmd = true ∧ s.error = true)
    ∧ (∃ s t : State, s.busy = true ∧ s.phase = .handler ∧ exec (fetch s) s = .next t ∧ t.busy = true)
    ∧ ∃ p : Packet, p.valid = true ∧ ackBit p.cmd = true :=
  ⟨⟨acking setReq false accepting, rfl, rfl, by decide, rfl⟩, ⟨acking unmatchedReq true accepting, rfl, rfl, by decide, rfl⟩,
    ⟨handling setReq accepting, _, rfl, rfl, rfl, rfl⟩, ⟨0x8B#8, 0x02#8, 0x34#8, 0x12#8, 0xAF#8⟩, by decide, by decide⟩

theorem witness_DispatcherFrame :
    (∃ s t : State, s.busy = true ∧ exec (fetch s) s = .next t ∧ isCommand (fetch s) = false)
    ∧ ∃ s t : State, s.busy = true ∧ exec (fetch s) s = .next t ∧ ∀ a p2 p3, fetch s ≠ .towerNumberSet a p2 p3 :=
  ⟨⟨acking setReq false accepting, _, rfl, rfl, by decide⟩, handling getReq accepting, _, rfl, rfl, by
    have h : fetch (handling getReq accepting) = .towerNumberGet true 0x00#8 0x00#8 := by decide
    intro a p2 p3
    rw [h]
    simp⟩

theorem witness_HandleMatchesPseudocode :
    (∃ s : State, Running s ∧ s.busy = true ∧ s.phase = .handler ∧ ackBit s.latch.cmd = true)
    ∧ (∃ s t : State, step s = .next t ∧ s.busy = false ∧ t.busy = true)
    ∧ ∃ s t : State, step s = .next t ∧ s.busy = false ∧ takenBytes (newEvents s t) ≠ [] :=
  ⟨⟨handling startupReq (refusing 5), handling_running .., rfl, rfl, by decide⟩, ⟨atComplete, _, rfl, rfl, rfl⟩,
    atComplete, _, rfl, rfl, by decide⟩

theorem witness_HandleEnds : ∃ s : State, Running s ∧ s.busy = true ∧ s.phase = .handler :=
  ⟨handling startupReq accepting, handling_running .., rfl, rfl⟩

theorem witness_OutcomesWhenSinkAccepts :
    ∃ (s : State) (r : List Bool), Running s ∧ s.busy = true ∧ s.phase = .handler ∧ s.sink = List.replicate 20 true ++ r :=
  ⟨handling startupReq accepting, [], handling_running .., rfl, rfl, by decide⟩

theorem witness_ErrorFlagTellsEmissions :
    (∃ s t : State, Running s ∧ step s = .next t ∧ isCommand (fetch s) = false)
    ∧ ∃ s t : State, Running s ∧ step s = .next t ∧ isCommand (fetch s) = true :=
  ⟨⟨acking setReq false accepting, _, acking_running .., rfl, by decide⟩,
    handling startupReq (refusing 5), _, handling_running .., rfl, by decide⟩

theorem witness_StepKeepsHandleInOrder : ∃ s t : State, HandleInOrder s ∧ step s = .next t ∧ s.phase = .epilogue :=
  ⟨acking setReq false accepting, _, by unfold HandleInOrder; decide, rfl, rfl⟩

/-! ### Rules of the whole machine -/

theorem witness_OnlySetWritesTowerNumber :
    ∃ s t : State, Running s ∧ step s = .next t ∧ t.towerNumber ≠ s.towerNumber :=
  ⟨handling setReq accepting, _, handling_running .., rfl, by decide⟩

theorem witness_TowerModeNeverWrittenNorRead :
    ∃ s t : State, Running s ∧ step s = .next t ∧ stores (newEvents s t) ≠ [] :=
  ⟨handling setReq accepting, _, handling_running .., rfl, by decide⟩

theorem witness_BusyInterlock :
    (∃ s t : State, Running s ∧ step s = .next t ∧ s.busy = true ∧ t.busy = true)
    ∧ ∃ s t : State, Running s ∧ step s = .next t ∧ s.busy = false ∧ t.busy = true :=
  ⟨⟨handling setReq accepting, _, handling_running .., rfl, rfl, rfl⟩, atComplete, _, framerAt_running .., rfl, rfl, rfl⟩

theorem witness_DispatcherIsStateless :
    ∃ (s t t' : State) (e : Bool) (l : Request) (p : Phase), Running s ∧ s.busy = false ∧ fetch s = .complete
      ∧ step s = .next t ∧ step { s with error := e, latch := l, phase := p } = .next t' ∧ e ≠ s.error ∧ l ≠ s.latch :=
  ⟨atComplete, _, _, false, startupReq, .epilogue, framerAt_running .., rfl, by decide, rfl, rfl, by decide, by decide⟩

theorem witness_IgnoredParametersDoNotMatter :
    (∃ (s t t' : State) (q1 q2 q3 : Byte), Running s ∧ s.busy = true ∧ s.phase = .handler
      ∧ s.latch.cmd &&& 0x7F#8 = s.cfg.cmdStartup ∧ step s = .next t
      ∧ step { s with latch := ⟨s.latch.cmd, q1, q2, q3⟩ } = .next t' ∧ q1 ≠ s.latch.p1)
    ∧ ∃ (s t t' : State) (q1 q2 q3 : Byte), Running s ∧ s.busy = true ∧ s.phase = .handler
      ∧ (s.latch.cmd &&& 0x7F#8 = s.cfg.cmdTowerNumber ∧ s.latch.p1 = s.cfg.subGet ∧ q1 = s.cfg.subGet)
      ∧ step s = .next t ∧ step { s with latch := ⟨s.latch.cmd, q1, q2, q3⟩ } = .next t' ∧ q2 ≠ s.latch.p2 :=
  ⟨⟨handling startupReq accepting, _, _, 0x01#8, 0x02#8, 0x03#8, handling_running .., rfl, rfl, by decide, rfl, rfl,
      by decide⟩,
    handling getReq accepting, _, _, 0x01#8, 0x55#8, 0xAA#8, handling_running .., rfl, rfl, by decide, rfl, rfl, by decide⟩

theorem witness_SetThenGetReportsIt :
    ∃ (s t u v : State) (a : Bool) (p2 p3 : Byte), Running s ∧ s.busy = true ∧ fetch s = .towerNumberSet a p2 p3
      ∧ step s = .next t ∧ u.towerNumber = t.towerNumber ∧ u.cfg = t.cfg ∧ u.rst = [] ∧ u.busy = true
      ∧ (∃ a' q2 q3, fetch u = .towerNumberGet a' q2 q3) ∧ step u = .next v :=
  ⟨handling setReq accepting, _, { handling getReq accepting with towerNumber := 0x1234#16 }, _, true, 0x34#8, 0x12#8,
    handling_running .., rfl, by decide, rfl, rfl, rfl, rfl, rfl, ⟨true, 0x00#8, 0x00#8, by decide⟩, rfl⟩

theorem witness_StoredNumberSurvivesReset :
    (∃ (s t u : State) (r : List RstInput), s.cfg.ok = true ∧ s.busy = true
      ∧ fetch s = .towerNumberSet true 0x34#8 0x12#8 ∧ s.rst = .low :: .high :: r ∧ step s = .next t ∧ step t = .next u
      ∧ s.storage.isSome = true)
    ∧ ∃ (s t u : State) (r : List RstInput), s.cfg.ok = true ∧ s.busy = true
      ∧ fetch s = .towerNumberSet true 0x34#8 0x12#8 ∧ s.rst = .low :: .high :: r ∧ step s = .next t ∧ step t = .next u
      ∧ s.storage = none :=
  ⟨⟨{ handling setReq accepting with rst := [.low, .high], storage := some ⟨0xBEEF#16, 0x0001#16⟩ }, _, _, [], by decide,
      rfl, by decide, rfl, rfl, rfl, rfl⟩,
    { handling setReq accepting with rst := [.low, .high] }, _, _, [], by decide, rfl, by decide, rfl, rfl, rfl, rfl⟩

theorem witness_StepKeepsConfiguration : ∃ s t : State, step s = .next t ∧ s.rst = [.high] :=
  ⟨{ base with rst := [.high] }, _, rfl, rfl⟩

theorem witness_TraceOnlyGrows : ∃ s t : State, step s = .next t ∧ s.rst = [] ∧ newEvents s t ≠ [] :=
  ⟨atComplete, _, rfl, rfl, by decide⟩

theorem witness_SignalsFollowTheStep :
    (∃ s t : State, Running s ∧ step s = .next t ∧ (signals s t).rxTake = true)
    ∧ ∃ s t : State, Running s ∧ step s = .next t ∧ (signals s t).txTries ≠ [] :=
  ⟨⟨atComplete, _, framerAt_running .., rfl, by decide⟩, handling startupReq accepting, _, handling_running .., rfl,
    by decide⟩

end Sys2Proof.Tests
end

section
/-!
Frame alignment (20_memory.md R37): every step keeps the cursor, the stored slots and the delivered packets those of the
consecutive blocks of five bytes taken since the last reset, and so does every run.
-/
namespace Sys2Proof.Machine

/-! ### Blocks of five bytes -/

/-- Whole blocks before other bytes do not move the boundaries of the blocks after them. -/
theorem blocks_append {full : List Byte} (h : 5 ∣ full.length) (rest : List Byte) :
    blocks (full ++ rest) = blocks full ++ blocks rest := by
  induction full using blocks.induct with
  | case1 a b c d e tail ih =>
    have ht : 5 ∣ tail.length := by simpa [Nat.dvd_add_self_right] using h
    simp [blocks, ih ht]
  | case2 l hl =>
    match l, hl, h with
    | [], _, _ => rfl
    | a :: b :: c :: d :: e :: tail, hl, _ => exact absurd rfl (hl a b c d e tail)
    | [_], _, h | [_, _], _, h | [_, _, _], _, h | [_, _, _, _], _, h => simp at h

/-- Fewer than five bytes hold no block. -/
theorem blocks_of_length_lt {part : List Byte} (h : part.length < 5) : blocks part = [] := by
  match part, h with
  | [], _ | [_], _ | [_, _], _ | [_, _, _], _ | [_, _, _, _], _ => rfl

/-- An incomplete block at the end of whole ones is none. -/
theorem blocks_append_part {full part : List Byte} (hf : 5 ∣ full.length) (hp : part.length < 5) :
    blocks (full ++ part) = blocks full := by
  rw [blocks_append hf, blocks_of_length_lt hp, List.append_nil]

/-! ### The buffer as the part of a block -/

/-- Below a legal cursor there are as many slots as it says. -/
theorem Buf.length_take_toList (f : Buf) {i : BitVec 3} (h : i ≤ 4#3) : (f.toList.take i.toNat).length = i.toNat := by
  have hi : i.toNat ≤ 5 := by bv_omega
  rw [List.length_take]
  exact Nat.min_eq_left hi

/-- STORE (R72) lengthens the stored part by the received byte. -/
theorem Buf.take_toList_put (f : Buf) {i : BitVec 3} (h : i ≤ 3#3) (b : Byte) :
    (f.put i b).toList.take (i + 1#3).toNat = f.toList.take i.toNat ++ [b] := by
  obtain rfl | rfl | rfl | rfl : i = 0#3 ∨ i = 1#3 ∨ i = 2#3 ∨ i = 3#3 := by bv_omega
  all_goals rfl

/-- The four stored bytes and the received one are the packet COMPLETE delivers (R73). -/
theorem Buf.blocks_take_four (f : Buf) (b : Byte) : blocks (f.toList.take 4 ++ [b]) = [f.packet b] := rfl

/-- The comparison of R73 and R74 is the validity of that packet (R51). -/
theorem Buf.packet_valid_iff (f : Buf) (b : Byte) : (f.packet b).valid = true ↔ f.xor4 = b :=
  beq_iff_eq.trans eq_comm

/-! ### Alignment by its whole blocks -/

/-- Alignment with the whole blocks named: the bytes taken since the last reset are `full`, a number of whole blocks, and
then the slots below the cursor. -/
structure AlignedAfter (full : List Byte) (s : State) : Prop where
  whole : 5 ∣ full.length
  legal : s.pos ≤ 4#3
  taken : takenBytes (sinceReset s.trace) = full ++ s.buf.toList.take s.pos.toNat
  delivers : delivered (sinceReset s.trace) = (blocks full).filter (·.valid)

/-- The two ways to say alignment: by lengths (the model's own), and by the whole blocks. -/
theorem aligned_iff (s : State) : Aligned s ↔ ∃ full, AlignedAfter full s := by
  constructor
  · rintro ⟨hpos, hslots, hdel⟩
    generalize hbs : takenBytes (sinceReset s.trace) = bs at hpos hslots hdel
    have hlegal : s.pos ≤ 4#3 := by bv_omega
    have hsplit : bs = bs.take (bs.length - s.pos.toNat) ++ s.buf.toList.take s.pos.toNat := by
      rw [hslots, List.take_append_drop]
    have hwhole : 5 ∣ (bs.take (bs.length - s.pos.toNat)).length := by
      rw [List.length_take]
      omega
    have hpart : (s.buf.toList.take s.pos.toNat).length < 5 := by
      rw [Buf.length_take_toList _ hlegal]
      omega
    refine ⟨_, hwhole, hlegal, hbs.trans hsplit, ?_⟩
    rw [hdel, ← blocks_append_part hwhole hpart, ← hsplit]
  · rintro ⟨full, hwhole, hlegal, htaken, hdel⟩
    have hlen := Buf.length_take_toList s.buf hlegal
    have hpos : s.pos.toNat < 5 := by bv_omega
    unfold Aligned
    rw [htaken, hdel, blocks_append_part hwhole (by omega), List.length_append, hlen, Nat.add_sub_cancel, List.drop_left]
    exact ⟨by omega, rfl, rfl⟩

/-- Right after a reset no byte has been taken (R140). -/
theorem alignedAfter_applyReset (s : State) : AlignedAfter [] (applyReset s) :=
  ⟨by simp, by simp, by simp [takenBytes], by simp [delivered, blocks]⟩

/-! ### What the operations do to alignment -/

section
variable {full : List Byte} {s t : State}

/-- Events that take no byte, deliver nothing and are no reset leave the alignment, when the framer's registers stay. -/
theorem AlignedAfter.of_quiet {es : List Event} (ha : AlignedAfter full s) (hpos : t.pos = s.pos) (hbuf : t.buf = s.buf)
    (htrace : t.trace = s.trace ++ es) (hr : .reset ∉ es) (ht : takenBytes es = []) (hd : delivered es = []) :
    AlignedAfter full t where
  whole := ha.whole
  legal := hpos ▸ ha.legal
  taken := by rw [htrace, sinceReset_append_list _ _ hr, takenBytes_append, ht, List.append_nil, hpos, hbuf, ha.taken]
  delivers := by rw [htrace, sinceReset_append_list _ _ hr, delivered_append, hd, List.append_nil, ha.delivers]

/-- A byte stored below the cursor 4 (R72) continues the block in progress. -/
theorem AlignedAfter.of_store {b : Byte} (ha : AlignedAfter full s) (h3 : s.pos ≤ 3#3) (hpos : t.pos = s.pos + 1#3)
    (hbuf : t.buf = s.buf.put s.pos b) (htrace : t.trace = s.trace ++ [.taken b]) : AlignedAfter full t where
  whole := ha.whole
  legal := by bv_omega
  taken := by
    rw [htrace, sinceReset_append_of_ne _ (by simp), takenBytes_append, ha.taken, hpos, hbuf, Buf.take_toList_put _ h3,
      List.append_assoc]
    rfl
  delivers := by
    rw [htrace, sinceReset_append_of_ne _ (by simp), delivered_append, ha.delivers]
    simp [delivered]

/-- A fifth byte ends the block in progress; it is delivered exactly when it is valid (R73, R74). -/
theorem AlignedAfter.of_fifth {b : Byte} {es : List Event} (ha : AlignedAfter full s) (h4 : s.pos = 4#3)
    (hpos : t.pos = 0#3) (htrace : t.trace = s.trace ++ es) (hr : .reset ∉ es) (ht : takenBytes es = [b])
    (hd : delivered es = [s.buf.packet b].filter (·.valid)) :
    AlignedAfter (full ++ (s.buf.toList.take 4 ++ [b])) t where
  whole := by simpa [Buf.toList] using ha.whole
  legal := by simp [hpos]
  taken := by
    rw [htrace, sinceReset_append_list _ _ hr, takenBytes_append, ht, ha.taken, h4, hpos]
    simp
  delivers := by
    rw [htrace, sinceReset_append_list _ _ hr, delivered_append, hd, ha.delivers, blocks_append ha.whole,
      Buf.blocks_take_four, List.filter_append]

/-- The framer keeps alignment; DEFENSIVE is not reached from a legal cursor. -/
theorem framer_keeps_aligned (hb : s.busy = false) (ha : Aligned s) (h : exec (fetch s) s = .next t) : Aligned t := by
  obtain ⟨full, ha⟩ := (aligned_iff s).mp ha
  rw [aligned_iff]
  obtain ⟨-, -, he⟩ | ⟨b, -, ⟨h3, -, he⟩ | ⟨h4, hx, -, he⟩ | ⟨h4, hx, -, he⟩ | ⟨h4, -, -⟩⟩ := framer_cases s hb
  · cases he.symm.trans h
    exact ⟨full, ha.of_quiet (es := []) rfl rfl (by simp) (by simp) rfl rfl⟩
  · cases he.symm.trans h
    exact ⟨full, ha.of_store h3 rfl rfl rfl⟩
  · cases he.symm.trans h
    have hv : (s.buf.packet b).valid = true := (s.buf.packet_valid_iff b).mpr hx
    refine ⟨_, ha.of_fifth (b := b) (es := [.taken b, .deliver (s.buf.packet b)]) h4 rfl (by simp [deliver]) (by simp)
      rfl ?_⟩
    rw [List.filter_singleton, hv]
    rfl
  · cases he.symm.trans h
    have hv : (s.buf.packet b).valid = false := by
      rw [← Bool.not_eq_true, Buf.packet_valid_iff]
      exact hx
    refine ⟨_, ha.of_fifth (b := b) (es := [.taken b]) h4 rfl rfl (by simp) rfl ?_⟩
    rw [List.filter_singleton, hv]
    rfl
  · have hlegal := ha.legal
    bv_omega

/-- The dispatcher keeps alignment: it takes no byte, delivers nothing and leaves the framer's registers. -/
theorem dispatcher_keeps_aligned (hb : s.busy = true) (ha : Aligned s) (h : exec (fetch s) s = .next t) : Aligned t := by
  obtain ⟨full, ha⟩ := (aligned_iff s).mp ha
  rw [aligned_iff]
  obtain ⟨bytes, ok, u, e, p, b, hemits, -, rfl⟩ | ⟨e, p, b, a, p2, p3, -, rfl⟩ := dispatcher_shape hb h
  · obtain ⟨htaken, hdel, -, hreset, -⟩ := hemits.quiet
    obtain ⟨answers, -, hu, -⟩ := hemits
    have htrace : u.trace = s.trace ++ newEvents s u := trace_eq_append_newEvents (by simp [hu])
    exact ⟨full, ha.of_quiet (by simp [hu]) (by simp [hu]) htrace hreset htaken hdel⟩
  · exact ⟨full, ha.of_quiet (es := [.nvStore .towerNumber (p3 ++ p2)]) rfl rfl rfl (by simp) rfl rfl⟩

/-- The operation the state selects keeps alignment. -/
theorem exec_fetch_keeps_aligned (ha : Aligned s) (h : exec (fetch s) s = .next t) : Aligned t := by
  cases hb : s.busy with
  | false => exact framer_keeps_aligned hb ha h
  | true => exact dispatcher_keeps_aligned hb ha h

/-- Every step keeps alignment, the host's resets included (R140, R141): a reset starts the count again. -/
theorem step_keeps_aligned (ha : Aligned s) (h : step s = .next t) : Aligned t := by
  obtain ⟨-, ⟨-, he⟩ | ⟨r, -, he⟩ | ⟨r, -, rfl⟩ | ⟨k, r, u, -, -, rfl⟩⟩ := step_cases h
  · exact exec_fetch_keeps_aligned ha he
  · have hpop : Aligned s.popRst := ha
    exact exec_fetch_keeps_aligned hpop he
  · exact (aligned_iff _).mpr ⟨[], alignedAfter_applyReset _⟩
  · exact (aligned_iff _).mpr ⟨[], alignedAfter_applyReset _⟩

end

/-- The state after reset is aligned, whatever stands in its environment. -/
theorem aligned_reset (c : Config) (rx : List (Option Byte)) (sink : List Bool) (storage : Option Storage)
    (rst : List RstInput) :
    Aligned { State.reset with cfg := c, rx := rx, sink := sink, storage := storage, rst := rst } :=
  ⟨rfl, rfl, rfl⟩

end Sys2Proof.Machine

namespace Sys2Proof
open Machine

/-- Validity (R51) with the comparison written as the exclusive or first. -/
theorem Packet.valid_eq_xor_beq (p : Packet) : p.valid = (p.cmd ^^^ p.p1 ^^^ p.p2 ^^^ p.p3 == p.cks) := BEq.comm

/-- Settles O30: alignment holds at reset and every step keeps it, so it holds after every run. -/
theorem runDeliversItsValidBlocks : Obligations.RunDeliversItsValidBlocks := by
  intro n c rx sink storage rst t h
  obtain ⟨hpos, -, hdel⟩ :=
    run_keeps (fun _ _ => step_keeps_aligned) n (aligned_reset c rx sink storage rst) h
  simp only [Packet.valid_eq_xor_beq] at hdel
  exact ⟨hpos, hdel⟩

end Sys2Proof
end

section
/-!
The encoding (30_encoding.md): the command byte and its two fields, the checksum, the five-way decode of a request under a
configuration that satisfies `ConfigOK`, the framer's operation select, and what packets a step can deliver.
-/
namespace Sys2Proof
open Machine

/-! ### The command byte (R52) -/

/-- A command byte is its ack flag in front of its 7-bit code. -/
theorem cons_ackBit_codeField (cmd : Byte) : BitVec.cons (ackBit cmd) (codeField cmd) = cmd := by
  rw [ackBit, ← BitVec.msb_eq_getLsbD_last cmd]
  exact BitVec.cons_msb_setWidth cmd

/-- The flag of a byte written as flag and code. -/
@[simp] theorem ackBit_cons (a : Bool) (code : BitVec 7) : ackBit (BitVec.cons a code) = a := by
  rw [ackBit, ← BitVec.msb_eq_getLsbD_last (BitVec.cons a code), BitVec.msb_cons]

/-- The code of a byte written as flag and code. -/
@[simp] theorem codeField_cons (a : Bool) (code : BitVec 7) : codeField (BitVec.cons a code) = code :=
  BitVec.setWidth_cons

/-- The 8-bit form of a code has bit 7 clear. -/
theorem setWidth_code_eq_cons (code : BitVec 7) : code.setWidth 8 = BitVec.cons false code := by
  apply BitVec.eq_of_toNat_eq
  have hlt : code.toNat < 256 := by omega
  simp [Nat.mod_eq_of_lt hlt]

/-- The mask `0x7F` clears the flag and keeps the code. -/
@[simp] theorem codeOf_cons (a : Bool) (code : BitVec 7) : codeOf (BitVec.cons a code) = BitVec.cons false code := by
  have hmask : 0x7F#8 = BitVec.cons false (BitVec.allOnes 7) := by decide
  rw [codeOf, hmask, BitVec.cons_and_cons, BitVec.and_allOnes, Bool.and_false]

/-- The mask `0x80` is the flag in front of code 0. -/
theorem ackMask_eq_cons : 0x80#8 = BitVec.cons true 0#7 := by decide

/-- The mask `0x80` keeps the flag alone. -/
theorem cons_and_ackMask (a : Bool) (code : BitVec 7) : BitVec.cons a code &&& 0x80#8 = BitVec.cons a 0#7 := by
  rw [ackMask_eq_cons, BitVec.cons_and_cons, BitVec.and_zero, Bool.and_true]

/-- A code with the ack flag put in bit 7. -/
theorem cmdByte_cons (a : Bool) (code : BitVec 7) : cmdByte a (BitVec.cons false code) = BitVec.cons a code := by
  cases a with
  | false => rfl
  | true => rw [cmdByte, if_pos rfl, ackMask_eq_cons, BitVec.cons_or_cons, BitVec.or_zero, Bool.false_or]

/-- Settles O7: every byte is a flag in front of a code, and the two are read back unchanged. -/
theorem commandByteFields : Obligations.CommandByteFields := by
  refine ⟨fun cmd => ?_, fun a code => ⟨BitVec.cons a code, ackBit_cons a code, codeField_cons a code⟩⟩
  rw [← cons_ackBit_codeField cmd]
  generalize ackBit cmd = a
  generalize codeField cmd = code
  refine ⟨?_, rfl, ?_, ?_⟩
  · rw [ackBit_cons, cons_and_ackMask]
    cases a <;> decide
  · rw [codeOf_cons, codeField_cons, setWidth_code_eq_cons]
  · rw [ackBit_cons, codeOf_cons, cmdByte_cons]

/-! ### The checksum (R51, R53) -/

/-- A change of the command byte by exclusive or changes the checksum by the same bits (R53). -/
theorem checksum_xor_cmd (cmd m p1 p2 p3 : Byte) : checksum (cmd ^^^ m) p1 p2 p3 = checksum cmd p1 p2 p3 ^^^ m := by
  unfold checksum
  ac_rfl

/-- Settles O8: the checksum is an exclusive or, so the flag's mask passes through it. -/
theorem ackFlagIsInTheChecksum : Obligations.AckFlagIsInTheChecksum :=
  fun cmd p1 p2 p3 => ⟨rfl, checksum_xor_cmd cmd 0x80#8 p1 p2 p3⟩

/-- Validity (R51) as an equation for the checksum byte. -/
theorem Packet.valid_iff (p : Packet) : p.valid = true ↔ p.cks = checksum p.cmd p.p1 p.p2 p.p3 := beq_iff_eq

/-- The second form of R51: all five bytes cancel. -/
theorem Packet.valid_iff_xor_eq_zero (p : Packet) :
    p.valid = true ↔ checksum p.cmd p.p1 p.p2 p.p3 ^^^ p.cks = 0x00#8 := by
  rw [p.valid_iff, BitVec.xor_eq_zero_iff]
  exact eq_comm

/-! ### The framer's operation select (R62) -/

/-- The framer's side of the comparison, written out (R73, R74). -/
theorem Machine.Buf.xor_slots_eq_xor4 (f : Buf) : f.b0 ^^^ f.b1 ^^^ f.b2 ^^^ f.b3 = f.xor4 := rfl

/-- STORE's four cursor values (R62). -/
theorem cursor_le_three_iff (i : BitVec 3) : i ≤ 3#3 ↔ i = 0#3 ∨ i = 1#3 ∨ i = 2#3 ∨ i = 3#3 := by
  bv_omega

/-- The 5-bit layout keeps all three fields apart (R62). -/
theorem Selector.toByte_fields (q : Selector) :
    q.toByte.getLsbD 4 = q.avail ∧ q.toByte.extractLsb' 1 3 = q.pos ∧ q.toByte.getLsbD 0 = q.eq
      ∧ q.toByte.extractLsb' 5 3 = 0#3 := by
  obtain ⟨avail, pos, eq⟩ := q
  revert avail pos eq
  decide

/-- Settles O9: one case for each answer of the source and each range of the cursor; in each the operation is known, and the
other operations' conditions fail. -/
theorem selectorTable : Obligations.SelectorTable := by
  refine ⟨fun s hb => ?_, fun q => ?_⟩
  · obtain ⟨hp, hf, -⟩ | ⟨b, hp, ⟨h3, hf, -⟩ | ⟨h4, hx, hf, -⟩ | ⟨h4, hx, hf, -⟩ | ⟨hgt, h5, -⟩⟩ := framer_cases s hb
    · simp [hf, hp, isFramerOp]
    · have hne : s.pos ≠ 4#3 ∧ s.pos ≠ 5#3 ∧ s.pos ≠ 6#3 ∧ s.pos ≠ 7#3 := by bv_omega
      simp [hf, hp, isFramerOp, hne, (cursor_le_three_iff s.pos).mp h3]
    · simp [hf, hp, isFramerOp, h4, s.buf.xor_slots_eq_xor4, hx]
    · simp [hf, hp, isFramerOp, h4, s.buf.xor_slots_eq_xor4, hx, Ne.symm hx]
    · have hne : s.pos ≠ 0#3 ∧ s.pos ≠ 1#3 ∧ s.pos ≠ 2#3 ∧ s.pos ≠ 3#3 ∧ s.pos ≠ 4#3 := by bv_omega
      obtain ⟨h5, hf⟩ | ⟨h5, hf⟩ := h5
      · simp [hf, hp, isFramerOp, h5]
      · have h67 : s.pos = 6#3 ∨ s.pos = 7#3 := by bv_omega
        simp [hf, hp, isFramerOp, hne, h5, h67]
  · obtain ⟨havail, hpos, heq, hzero⟩ := q.toByte_fields
    refine ⟨havail, hpos, heq, hzero, ?_⟩
    rw [Selector.ofByte, havail, hpos, heq]

/-! ### The five-way decode (R55) -/

/-- What `ConfigOK` (R4) says of the codes and the sub-selectors: they are pairwise distinct. -/
theorem Config.distinct_of_ok {c : Config} (hok : c.ok = true) :
    c.cmdStartup ≠ c.cmdVersion ∧ c.cmdStartup ≠ c.cmdTowerNumber ∧ c.cmdVersion ≠ c.cmdTowerNumber
      ∧ c.subGet ≠ c.subSet := by
  simp only [Config.ok, Bool.and_eq_true, decide_eq_true_eq] at hok
  obtain ⟨⟨⟨⟨⟨⟨hsv, hst⟩, hvt⟩, -⟩, -⟩, -⟩, hsub⟩ := hok
  exact ⟨hsv, hst, hvt, hsub⟩

section
variable {c : Config} (r : Request)

/-- The GET_STARTUP row is the first tried. -/
theorem decodeRequest_eq_getStartup_iff :
    decodeRequest c r = .getStartup (ackBit r.cmd) r.p1 r.p2 r.p3 ↔ codeOf r.cmd = c.cmdStartup := by
  obtain ⟨hc, h⟩ | ⟨hs, -, h⟩ | ⟨hs, -, -, -, h⟩ | ⟨hs, -, -, -, -, h⟩ | ⟨hs, -, -, h⟩ := decodeRequest_cases c r
  · simp [h, hc]
  all_goals simp [h, hs]

/-- The GET_VERSION row. -/
theorem decodeRequest_eq_getVersion_iff (hok : c.ok = true) :
    decodeRequest c r = .getVersion (ackBit r.cmd) r.p1 r.p2 r.p3 ↔ codeOf r.cmd = c.cmdVersion := by
  obtain ⟨hsv, -⟩ := Config.distinct_of_ok hok
  obtain ⟨hc, h⟩ | ⟨-, hc, h⟩ | ⟨-, hv, -, -, h⟩ | ⟨-, hv, -, -, -, h⟩ | ⟨-, hv, -, h⟩ := decodeRequest_cases c r
  · simp [h, hc, hsv]
  · simp [h, hc]
  all_goals simp [h, hv]

/-- The TOWER_NUMBER GET row. -/
theorem decodeRequest_eq_towerNumberGet_iff (hok : c.ok = true) :
    decodeRequest c r = .towerNumberGet (ackBit r.cmd) r.p2 r.p3
      ↔ codeOf r.cmd = c.cmdTowerNumber ∧ r.p1 = c.subGet := by
  obtain ⟨-, hst, hvt, -⟩ := Config.distinct_of_ok hok
  obtain ⟨hc, h⟩ | ⟨-, hc, h⟩ | ⟨-, -, hc, hg, h⟩ | ⟨-, -, -, hg, -, h⟩ | ⟨-, -, hn, h⟩ := decodeRequest_cases c r
  · simp [h, hc, hst]
  · simp [h, hc, hvt]
  · simp [h, hc, hg]
  · simp [h, hg]
  · simpa [h] using fun hc hg => hn ⟨hc, .inl hg⟩

/-- The TOWER_NUMBER SET row. -/
theorem decodeRequest_eq_towerNumberSet_iff (hok : c.ok = true) :
    decodeRequest c r = .towerNumberSet (ackBit r.cmd) r.p2 r.p3
      ↔ codeOf r.cmd = c.cmdTowerNumber ∧ r.p1 = c.subSet := by
  obtain ⟨-, hst, hvt, hsub⟩ := Config.distinct_of_ok hok
  obtain ⟨hc, h⟩ | ⟨-, hc, h⟩ | ⟨-, -, -, hg, h⟩ | ⟨-, -, hc, -, hs, h⟩ | ⟨-, -, hn, h⟩ := decodeRequest_cases c r
  · simp [h, hc, hst]
  · simp [h, hc, hvt]
  · simp [h, hg, hsub]
  · simp [h, hc, hs]
  · simpa [h] using fun hc hs => hn ⟨hc, .inr hs⟩

/-- The UNMATCHED row is taken when no other is (R60). -/
theorem decodeRequest_eq_unmatched_iff :
    decodeRequest c r = .unmatched (ackBit r.cmd) (codeField r.cmd) r.p1 r.p2 r.p3
      ↔ codeOf r.cmd ≠ c.cmdStartup ∧ codeOf r.cmd ≠ c.cmdVersion
        ∧ ¬(codeOf r.cmd = c.cmdTowerNumber ∧ (r.p1 = c.subGet ∨ r.p1 = c.subSet)) := by
  obtain ⟨hc, h⟩ | ⟨-, hc, h⟩ | ⟨-, -, hc, hg, h⟩ | ⟨-, -, hc, -, hs, h⟩ | ⟨hs, hv, hn, h⟩ := decodeRequest_cases c r
  · simp [h, hc]
  · simp [h, hc]
  · simp [h, hc, hg]
  · simp [h, hc, hs]
  · exact iff_of_true h ⟨hs, hv, hn⟩

/-- The rows are different instructions, so a request is decoded to one of them only. -/
theorem count_rows_decodeRequest :
    [decodeRequest c r == .getStartup (ackBit r.cmd) r.p1 r.p2 r.p3,
      decodeRequest c r == .getVersion (ackBit r.cmd) r.p1 r.p2 r.p3,
      decodeRequest c r == .towerNumberGet (ackBit r.cmd) r.p2 r.p3,
      decodeRequest c r == .towerNumberSet (ackBit r.cmd) r.p2 r.p3,
      decodeRequest c r == .unmatched (ackBit r.cmd) (codeField r.cmd) r.p1 r.p2 r.p3].count true = 1 := by
  obtain ⟨-, h⟩ | ⟨-, -, h⟩ | ⟨-, -, -, -, h⟩ | ⟨-, -, -, -, -, h⟩ | ⟨-, -, -, h⟩ := decodeRequest_cases c r
  all_goals simp [h]

end

/-- Settles O3, from one equivalence for each row; `cks` is no part of a request. -/
theorem decodeIsFiveWay : Obligations.DecodeIsFiveWay := fun _ p hok =>
  ⟨decodeRequest_eq_getStartup_iff p.request, decodeRequest_eq_getVersion_iff p.request hok,
    decodeRequest_eq_towerNumberGet_iff p.request hok, decodeRequest_eq_towerNumberSet_iff p.request hok,
    decodeRequest_eq_unmatched_iff p.request, count_rows_decodeRequest p.request, fun _ => rfl⟩

/-- Settles O4: bytes are equal when all their bits are (R56). -/
theorem subSelectorComparesEveryBit : Obligations.SubSelectorComparesEveryBit := by
  intro c r hok hcode
  have hcode' : codeOf r.cmd = c.cmdTowerNumber := hcode
  rw [decodeRequest_eq_towerNumberGet_iff r hok, decodeRequest_eq_towerNumberSet_iff r hok,
    ← BitVec.eq_of_getLsbD_eq_iff, ← BitVec.eq_of_getLsbD_eq_iff]
  exact ⟨and_iff_right hcode', and_iff_right hcode'⟩

/-! ### Delivered packets (R51, R61) -/

namespace Machine
variable {s t : State} {p : Packet}

/-- The dispatcher delivers no packet. -/
theorem dispatcher_delivers_nothing (hb : s.busy = true) (h : exec (fetch s) s = .next t) :
    delivered (newEvents s t) = [] := by
  obtain ⟨bytes, ok, u, e, p, b, hemits, -, rfl⟩ | ⟨e, p, b, a, p2, p3, -, rfl⟩ := dispatcher_shape hb h
  · obtain ⟨-, hdel, -⟩ := hemits.quiet
    exact hdel
  · rw [newEvents_of_trace rfl]
    rfl

/-- The framer delivers in COMPLETE only, where the comparison that selects it is the packet's validity. -/
theorem framer_delivers_valid (hb : s.busy = false) (h : exec (fetch s) s = .next t)
    (hp : p ∈ delivered (newEvents s t)) : p.valid = true := by
  obtain ⟨-, -, he⟩ | ⟨b, -, ⟨-, -, he⟩ | ⟨-, hx, -, he⟩ | ⟨-, -, -, he⟩ | ⟨-, -, he⟩⟩ := framer_cases s hb <;>
    cases he.symm.trans h
  · simp [newEvents, delivered] at hp
  · simp [newEvents, delivered] at hp
  · obtain rfl : p = s.buf.packet b := by simpa [newEvents, delivered, deliver] using hp
    exact (s.buf.packet_valid_iff b).mpr hx
  · simp [newEvents, delivered] at hp
  · simp [newEvents, delivered, defensiveByte] at hp

/-- The operation the state selects delivers valid packets only. -/
theorem exec_fetch_delivers_valid (h : exec (fetch s) s = .next t) (hp : p ∈ delivered (newEvents s t)) :
    p.valid = true := by
  cases hb : s.busy with
  | false => exact framer_delivers_valid hb h hp
  | true => simp [dispatcher_delivers_nothing hb h] at hp

/-- No step delivers an invalid packet, the host's resets included: a reset delivers nothing, and an abandoned step no more
than the whole one. -/
theorem step_delivers_valid (h : step s = .next t) (hp : p ∈ delivered (newEvents s t)) : p.valid = true := by
  obtain ⟨-, ⟨-, he⟩ | ⟨r, -, he⟩ | ⟨r, -, rfl⟩ | ⟨k, r, u, -, he, rfl⟩⟩ := step_cases h
  · exact exec_fetch_delivers_valid he hp
  · exact exec_fetch_delivers_valid (s := s.popRst) he hp
  · rw [newEvents_base (s := s) (s' := s.popRst) rfl, newEvents_applyReset] at hp
    simp [delivered] at hp
  · rw [newEvents_base (s := s) (s' := s.popRst) rfl, newEvents_cutAt, delivered_append, List.mem_append] at hp
    obtain hp | hp := hp
    · exact exec_fetch_delivers_valid (s := s.popRst) he
        (((keepAttempts_prefixed k _).filterMap _).subset hp)
    · simp [delivered] at hp

end Machine

/-- Settles O6: validity is one equation for the checksum byte, and the framer's comparison is that equation. -/
theorem validFrameIsXorZero : Obligations.ValidFrameIsXorZero := by
  refine ⟨Packet.valid_iff, Packet.valid_iff_xor_eq_zero, fun c p1 p2 p3 => ?_, rfl, fun s t h p hp => ?_⟩
  · exact ⟨checksum c p1 p2 p3, (Packet.valid_iff _).mpr rfl, fun k hk => (Packet.valid_iff _).mp hk⟩
  · exact step_delivers_valid h hp

end Sys2Proof
end

section
/-!
The framer (40_framer.md): its operations one by one (R71 to R74), `Poll` as the spec writes it against one step (R70), and
what a run over the bytes of a frame leaves, valid (R77) or corrupted (R78).
-/
namespace Sys2Proof.Machine

/-! ### The buffer's slots -/

/-- The slot written is the slot read. -/
theorem Buf.slot_put_same (f : Buf) {i : BitVec 3} (h : i ≤ 3#3) (b : Byte) : (f.put i b).slot i = b := by
  obtain rfl | rfl | rfl | rfl := (cursor_le_three_iff i).mp h
  all_goals rfl

/-- A write leaves the four other slots (R72). -/
theorem Buf.slot_put_ne (f : Buf) {i j : BitVec 3} (h : i ≤ 3#3) (hne : j ≠ i) (b : Byte) :
    (f.put i b).slot j = f.slot j := by
  obtain rfl | rfl | rfl | rfl := (cursor_le_three_iff i).mp h
  all_goals simp [Buf.put, Buf.slot, hne]

/-! ### One rule for each operation a legal cursor selects -/

section
variable {s : State} {b : Byte} {r : List (Option Byte)}

/-- What taking a byte leaves, field by field (R30). -/
theorem popRx_emit_taken_eq (hrx : s.rx = some b :: r) :
    s.popRx.emit (.taken b) = { s with rx := r, trace := s.trace ++ [.taken b] } := by
  simp [State.popRx, State.emit, hrx]

/-- IDLE (R71), at any cursor. -/
theorem framer_idle (hb : s.busy = false) (hp : s.rxPeek = none) :
    fetch s = .idle ∧ exec .idle s = .next { s with rx := s.rx.tail } := by
  obtain ⟨-, hf, he⟩ | ⟨b, hp', -⟩ := framer_cases s hb
  · exact ⟨hf, hf ▸ he⟩
  · simp [hp] at hp'

/-- STORE (R72). -/
theorem framer_store (hb : s.busy = false) (hrx : s.rx = some b :: r) (h3 : s.pos ≤ 3#3) :
    fetch s = .store ∧ exec .store s = .next { s with
      rx := r, buf := s.buf.put s.pos b, pos := s.pos + 1#3, trace := s.trace ++ [.taken b] } := by
  have hlegal : s.pos ≠ 4#3 ∧ ¬ 4#3 < s.pos := by bv_omega
  have hcases := framer_cases s hb
  simp only [rxPeek_cons_some s b r hrx, h3, hlegal] at hcases
  obtain ⟨hf, he⟩ : fetch s = .store ∧ _ := by simpa using hcases
  rw [hf, popRx_emit_taken_eq hrx] at he
  exact ⟨hf, he⟩

/-- COMPLETE (R73). -/
theorem framer_complete (hb : s.busy = false) (hrx : s.rx = some b :: r) (h4 : s.pos = 4#3) (hx : s.buf.xor4 = b) :
    fetch s = .complete ∧ exec .complete s = .next { s with
      rx := r, pos := 0#3, busy := true, phase := .handler
      buf := { s.buf with b4 := b }
      latch := (s.buf.packet b).request
      trace := s.trace ++ [.taken b, .deliver (s.buf.packet b)] } := by
  obtain ⟨hf, he⟩ : fetch s = .complete ∧ _ := by
    simpa [rxPeek_cons_some s b r hrx, h4, hx] using framer_cases s hb
  rw [hf, popRx_emit_taken_eq hrx] at he
  refine ⟨hf, he.trans ?_⟩
  simp [deliver, State.beginHandle, State.emit, State.setFramer, Buf.put]

/-- RESYNC (R74). -/
theorem framer_resync (hb : s.busy = false) (hrx : s.rx = some b :: r) (h4 : s.pos = 4#3) (hx : s.buf.xor4 ≠ b) :
    fetch s = .resync ∧ exec .resync s = .next { s with
      rx := r, pos := 0#3, buf := s.buf.shifted b, trace := s.trace ++ [.taken b] } := by
  obtain ⟨hf, he⟩ : fetch s = .resync ∧ _ := by
    simpa [rxPeek_cons_some s b r hrx, h4, hx] using framer_cases s hb
  rw [hf, popRx_emit_taken_eq hrx] at he
  exact ⟨hf, he⟩

end

/-! ### `Poll` as the spec writes it (R70) -/

section
variable {s : State}

/-- A step of a running machine, with no reset input waiting, is the operation it selects. -/
theorem step_of_running (h : Running s) : step s = exec (fetch s) s := by
  obtain ⟨hok, hrst⟩ := h
  simp [step, stepWith, underReset, hok, hrst]

/-- What the selected operation answers is what the step answers. -/
theorem step_of_selected {t : State} {i : Instr} (h : Running s) (hi : fetch s = i ∧ exec i s = .next t) :
    step s = .next t := by
  obtain ⟨rfl, he⟩ := hi
  rw [step_of_running h, he]

/-- The selected framer operation does what `Poll` does, and `Poll`'s packet is what COMPLETE delivers. -/
theorem poll_cases (hb : s.busy = false) :
    exec (fetch s) s = .next (poll s).2
    ∧ ((fetch s = .complete ∧ ∃ b, s.rxPeek = some b ∧ (poll s).1 = some (s.buf.packet b))
      ∨ (fetch s ≠ .complete ∧ (poll s).1 = none)) := by
  obtain ⟨hp, hf, he⟩ | ⟨b, hp, hbyte⟩ := framer_cases s hb
  · have hpoll : poll s = (none, s.popRx) := by simp [poll, rxPoll, hp]
    exact ⟨by rw [he, hpoll], .inr ⟨by simp [hf], by rw [hpoll]⟩⟩
  have htake : rxPoll s = (some b, s.popRx.emit (.taken b)) := by simp [rxPoll, hp]
  obtain ⟨h3, hf, he⟩ | ⟨h4, hx, hf, he⟩ | ⟨h4, hx, hf, he⟩ | ⟨hgt, hf, he⟩ := hbyte
  · have hpoll : poll s = (none, (s.popRx.emit (.taken b)).setFramer (s.pos + 1#3) (s.buf.put s.pos b)) := by
      rw [poll, htake]
      exact if_pos h3
    exact ⟨by rw [he, hpoll], .inr ⟨by simp [hf], by rw [hpoll]⟩⟩
  · have hpoll : poll s = (some (s.buf.packet b),
        deliver (s.buf.packet b) ((s.popRx.emit (.taken b)).setFramer 0#3 (s.buf.put 4#3 b))) := by
      rw [poll, htake]
      exact (if_neg (by simp [h4])).trans ((if_pos h4).trans (if_pos hx))
    exact ⟨by rw [he, hpoll], .inl ⟨hf, b, hp, by rw [hpoll]⟩⟩
  · have hpoll : poll s = (none, (s.popRx.emit (.taken b)).setFramer 0#3 (s.buf.shifted b)) := by
      rw [poll, htake]
      exact (if_neg (by simp [h4])).trans ((if_pos h4).trans (if_neg hx))
    exact ⟨by rw [he, hpoll], .inr ⟨by simp [hf], by rw [hpoll]⟩⟩
  · have hne : ¬ s.pos ≤ 3#3 ∧ s.pos ≠ 4#3 := by bv_omega
    have hpoll : poll s = (none, defensiveByte b (s.popRx.emit (.taken b))) := by
      rw [poll, htake]
      exact (if_neg hne.1).trans (if_neg hne.2)
    have hnot : fetch s ≠ .complete := by obtain ⟨-, hf⟩ | ⟨-, hf⟩ := hf <;> simp [hf]
    exact ⟨by rw [he, hpoll], .inr ⟨hnot, by rw [hpoll]⟩⟩

/-- No framer operation runs inside a `Handle` (R131, R145). -/
theorem exec_framerOp_of_busy {i : Instr} (hb : s.busy = true) (hi : isFramerOp i = true) :
    exec i s = .refused .reentered := by
  match i, hi with
  | .idle, _ | .store, _ | .complete, _ | .resync, _ | .defensive5, _ | .defensive67, _ => exact if_pos hb

theorem isFramerOp_fetch_of_busy (hb : s.busy = true) : isFramerOp (fetch s) = false := by
  obtain ⟨-, hf, -⟩ | ⟨-, hf, -⟩ := dispatcher_cases s hb
  · rw [hf]
    obtain ⟨-, h⟩ | ⟨-, -, h⟩ | ⟨-, -, -, -, h⟩ | ⟨-, -, -, -, -, h⟩ | ⟨-, -, -, h⟩ :=
      decodeRequest_cases s.cfg s.latch <;> rw [h] <;> rfl
  · rw [hf]
    rfl

end

/-! ### A frame in progress -/

/-- The frame's bytes before its checksum (R50). -/
def dataBytes (p : Packet) : List Byte := [p.cmd, p.p1, p.p2, p.p3]

theorem bytes_eq_dataBytes (p : Packet) : p.bytes = dataBytes p ++ [p.cks] := rfl

/-- The bytes of a frame that comes without idle polls, up to its checksum and from there on. -/
theorem map_some_bytes_append (p : Packet) (r : List (Option Byte)) :
    p.bytes.map some ++ r = (dataBytes p).map some ++ some p.cks :: r := by
  rw [bytes_eq_dataBytes, List.map_append, List.append_assoc]
  rfl

/-- From `s` to `t` the running framer, never busy, has stored `part` of a frame below its cursor, delivered nothing and
left `error`. -/
structure StoredSince (s : State) (part : List Byte) (t : State) : Prop where
  running : Running t
  notBusy : t.busy = false
  legal : t.pos ≤ 4#3
  slots : t.buf.toList.take t.pos.toNat = part
  error : t.error = s.error
  quiet : ∃ es, t.trace = s.trace ++ es ∧ delivered es = []

section
variable {s t : State} {part : List Byte} {b : Byte} {p : Packet} {r : List (Option Byte)}

/-- A running framer at cursor 0 has stored nothing yet. -/
theorem storedSince_nil (hr : Running s) (hb : s.busy = false) (h0 : s.pos = 0#3) : StoredSince s [] s :=
  ⟨hr, hb, by simp [h0], by simp [h0], rfl, [], by simp, rfl⟩

/-- The cursor counts the bytes stored (R13). -/
theorem StoredSince.pos_toNat (h : StoredSince s part t) : t.pos.toNat = part.length := by
  rw [← h.slots, Buf.length_take_toList _ h.legal]

theorem StoredSince.delivered_newEvents (h : StoredSince s part t) : delivered (newEvents s t) = [] := by
  obtain ⟨es, htrace, hdel⟩ := h.quiet
  rw [newEvents_of_trace htrace, hdel]

/-- An idle poll (R71) leaves the frame in progress. -/
theorem StoredSince.idle (h : StoredSince s part t) (hrx : t.rx = none :: r) :
    ∃ u, step t = .next u ∧ u.rx = r ∧ StoredSince s part u := by
  refine ⟨_, step_of_selected h.running (framer_idle h.notBusy (rxPeek_cons_none t r hrx)), by simp [hrx], ?_⟩
  exact ⟨h.running, h.notBusy, h.legal, h.slots, h.error, h.quiet⟩

/-- One of the first four bytes (R72) lengthens it. -/
theorem StoredSince.store (h : StoredSince s part t) (hlen : part.length < 4) (hrx : t.rx = some b :: r) :
    ∃ u, step t = .next u ∧ u.rx = r ∧ StoredSince s (part ++ [b]) u := by
  have hpos := h.pos_toNat
  have h3 : t.pos ≤ 3#3 := by bv_omega
  obtain ⟨es, htrace, hdel⟩ := h.quiet
  refine ⟨_, step_of_selected h.running (framer_store h.notBusy hrx h3), rfl, h.running, h.notBusy, ?_, ?_, h.error,
    es ++ [.taken b], ?_, ?_⟩
  · show t.pos + 1#3 ≤ 4#3
    bv_omega
  · rw [← h.slots]
    exact Buf.take_toList_put _ h3 b
  · simp [htrace]
  · rw [delivered_append, hdel]
    rfl

/-- With a frame's data bytes stored, the framer's comparison is that of the frame (R73). -/
theorem StoredSince.packet_eq (h : StoredSince s (dataBytes p) t) : t.pos = 4#3 ∧ t.buf.packet p.cks = p := by
  have h4 : t.pos = 4#3 := BitVec.eq_of_toNat_eq h.pos_toNat
  have hslots := h.slots
  rw [h4] at hslots
  have hblock : [t.buf.packet p.cks] = blocks (dataBytes p ++ [p.cks]) := by
    rw [← hslots]
    exact (t.buf.blocks_take_four p.cks).symm
  exact ⟨h4, List.singleton_inj.mp hblock⟩

/-- A fifth byte that makes a valid packet delivers it (R73). -/
theorem StoredSince.complete (h : StoredSince s (dataBytes p) t) (hv : p.valid = true)
    (hrx : t.rx = some p.cks :: r) :
    ∃ u, step t = .next u ∧ u.rx = r ∧ u.pos = 0#3 ∧ u.busy = true ∧ delivered (newEvents s u) = [p] := by
  obtain ⟨h4, hp⟩ := h.packet_eq
  obtain ⟨es, htrace, hdel⟩ := h.quiet
  have hx : t.buf.xor4 = p.cks := (Buf.packet_valid_iff _ _).mp (hp ▸ hv)
  refine ⟨_, step_of_selected h.running (framer_complete h.notBusy hrx h4 hx), rfl, rfl, rfl, ?_⟩
  rw [newEvents_of_trace (es := es ++ [.taken p.cks, .deliver p]) (by simp [htrace, hp]), delivered_append, hdel]
  rfl

/-- A fifth byte that makes no valid packet starts a new frame, with nothing delivered (R74). -/
theorem StoredSince.resync (h : StoredSince s (dataBytes p) t) (hv : p.valid = false)
    (hrx : t.rx = some p.cks :: r) :
    ∃ u, step t = .next u ∧ u.rx = r ∧ StoredSince s [] u := by
  obtain ⟨h4, hp⟩ := h.packet_eq
  obtain ⟨es, htrace, hdel⟩ := h.quiet
  have hx : t.buf.xor4 ≠ p.cks := by
    rw [Ne, ← Buf.packet_valid_iff, hp, Bool.not_eq_true]
    exact hv
  refine ⟨_, step_of_selected h.running (framer_resync h.notBusy hrx h4 hx), rfl, h.running, h.notBusy, by simp, rfl,
    h.error, es ++ [.taken p.cks], by simp [htrace], ?_⟩
  rw [delivered_append, hdel]
  rfl

/-! ### Runs over polls -/

/-- A run over polls that bring no more than four bytes in all stores them. -/
theorem StoredSince.run (h : StoredSince s part t) (polls : List (Option Byte))
    (hlen : part.length + polls.reduceOption.length ≤ 4) (hrx : t.rx = polls ++ r) :
    ∃ u, Sys2Proof.core.run polls.length t = .next u ∧ u.rx = r ∧ StoredSince s (part ++ polls.reduceOption) u := by
  induction polls generalizing part t with
  | nil => exact ⟨t, rfl, hrx, by simpa using h⟩
  | cons x xs ih =>
    cases x with
    | none =>
      obtain ⟨v, hstep, hv, hs⟩ := h.idle hrx
      rw [List.length_cons, run_succ_of_next _ hstep]
      exact ih hs hlen hv
    | some b =>
      rw [List.reduceOption_cons_of_some, List.length_cons] at hlen
      obtain ⟨v, hstep, hv, hs⟩ := h.store (by omega) hrx
      obtain ⟨u, hrun, hu, hs⟩ := ih hs (by rw [List.length_append, List.length_singleton]; omega) hv
      rw [List.length_cons, run_succ_of_next _ hstep]
      exact ⟨u, hrun, hu, by simpa using hs⟩

/-- A run over polls that end with a frame's fifth byte goes on with that byte. -/
theorem StoredSince.run_fifth (h : StoredSince s [] t) (polls : List (Option Byte))
    (hpolls : polls.reduceOption = dataBytes p) (hrx : t.rx = polls ++ some p.cks :: r) :
    ∃ v, Sys2Proof.core.run (polls.length + 1) t = Sys2Proof.core.run 1 v ∧ v.rx = some p.cks :: r
      ∧ StoredSince s (dataBytes p) v := by
  obtain ⟨v, hrun, hv, hs⟩ := h.run polls (by simp [hpolls, dataBytes]) hrx
  exact ⟨v, run_add _ 1 hrun, hv, hpolls ▸ hs⟩

/-- The four data bytes and the fifth of a valid frame, with idle polls between, deliver it. -/
theorem StoredSince.run_valid (h : StoredSince s [] t) (hv : p.valid = true) (polls : List (Option Byte))
    (hpolls : polls.reduceOption = dataBytes p) (hrx : t.rx = polls ++ some p.cks :: r) :
    ∃ u, Sys2Proof.core.run (polls.length + 1) t = .next u ∧ u.rx = r ∧ u.pos = 0#3 ∧ u.busy = true
      ∧ delivered (newEvents s u) = [p] := by
  obtain ⟨v, hrun, hvrx, hs⟩ := h.run_fifth polls hpolls hrx
  obtain ⟨u, hstep, hu⟩ := hs.complete hv hvrx
  exact ⟨u, by rw [hrun, run_succ_of_next 0 hstep, run_zero], hu⟩

/-- Those of an invalid one leave the framer as it began. -/
theorem StoredSince.run_invalid (h : StoredSince s [] t) (hv : p.valid = false)
    (polls : List (Option Byte)) (hpolls : polls.reduceOption = dataBytes p)
    (hrx : t.rx = polls ++ some p.cks :: r) :
    ∃ u, Sys2Proof.core.run (polls.length + 1) t = .next u ∧ u.rx = r ∧ StoredSince s [] u := by
  obtain ⟨v, hrun, hvrx, hs⟩ := h.run_fifth polls hpolls hrx
  obtain ⟨u, hstep, hu⟩ := hs.resync hv hvrx
  exact ⟨u, by rw [hrun, run_succ_of_next 0 hstep, run_zero], hu⟩

end

end Sys2Proof.Machine

namespace Sys2Proof
open Machine

/-! ### Frames on the source -/

/-- Polls that end with a byte are the polls before it and that byte. -/
theorem polls_split_last {polls : List (Option Byte)} {bytes : List Byte} {b : Byte}
    (hp : polls.reduceOption = bytes ++ [b]) (hlast : polls.getLast? ≠ some none) :
    ∃ init, polls = init ++ [some b] ∧ init.reduceOption = bytes := by
  obtain rfl | ⟨init, x, rfl⟩ := polls.eq_nil_or_concat'
  · simp at hp
  · cases x with
    | none => simp at hlast
    | some x =>
      have h : init.reduceOption ++ [x] = bytes ++ [b] := (List.reduceOption_append ..).symm.trans hp
      obtain ⟨hinit, hx⟩ := List.append_inj' h rfl
      cases hx
      exact ⟨init, rfl, hinit⟩

/-- Changing one byte of a valid frame leaves an invalid one: both checksums (R51) would hold, and the four bytes
left as they were cancel. -/
theorem Packet.invalid_of_one_changed {good bad : Packet} {j : Nat} (hgood : good.valid = true) (hj : j < 5)
    (h : ∀ i < 5, (bad.bytes[i]? = good.bytes[i]?) ↔ i ≠ j) : bad.valid = false := by
  have hcmd := h 0 (by decide)
  have hp1 := h 1 (by decide)
  have hp2 := h 2 (by decide)
  have hp3 := h 3 (by decide)
  have hcks := h 4 (by decide)
  rw [← Bool.not_eq_true]
  intro hbad
  rw [Packet.valid_iff] at hgood hbad
  interval_cases j <;> simp_all [Packet.bytes, checksum]

/-! ### The statements -/

/-- Settles O19, by IDLE's rule, which holds at any cursor. -/
theorem idleChangesNothing : Obligations.IdleChangesNothing := fun _ hb hp => (framer_idle hb hp).2

/-- Settles O20, by STORE's rule and the two facts about a written slot. -/
theorem storeWritesOneSlot : Obligations.StoreWritesOneSlot := by
  intro s b r hb hrx h3
  refine ⟨(framer_store hb hrx h3).2, ?_, s.buf.slot_put_same h3 b, fun j _ hne => s.buf.slot_put_ne h3 hne b⟩
  bv_omega

/-- Settles O21, by COMPLETE's rule. -/
theorem completeDelivers : Obligations.CompleteDelivers := fun _ _ _ hb hrx h4 hx => (framer_complete hb hrx h4 hx).2

/-- Settles O22, by RESYNC's rule. -/
theorem resyncShifts : Obligations.ResyncShifts := fun _ _ _ hb hrx h4 hx => (framer_resync hb hrx h4 hx).2

/-- Settles O25: the step is the selected operation, whose state and packet are `Poll`'s; its events are those of that
operation. -/
theorem pollMatchesPseudocode : Obligations.PollMatchesPseudocode := by
  refine ⟨fun s hr hb => ?_, fun s hb => ⟨isFramerOp_fetch_of_busy hb, fun i => exec_framerOp_of_busy hb⟩⟩
  obtain ⟨he, hpoll⟩ := poll_cases hb
  refine ⟨step_of_running hr ▸ he, ?_⟩
  obtain ⟨hf, b, hp, hpacket⟩ | ⟨hne, hnone⟩ := hpoll
  · have hn : newEvents s (poll s).2 = [.taken b, .deliver (s.buf.packet b)] := by
      simpa [hf, hp] using (framer_events hb he).2
    simp [hf, hn, hpacket, isFramerOp, delivered, takenBytes]
  · obtain ⟨-, ⟨hf, hn⟩ | ⟨b, -, ⟨hf, hn⟩ | ⟨hf, -⟩ | ⟨hf, hn⟩ | ⟨hf | hf, hn⟩⟩⟩ := framer_events hb he
    case inr.inr.inr.inl => exact absurd hf hne
    all_goals simp [hf, hn, hnone, isFramerOp, delivered, takenBytes]

/-- Settles O31: the polls before the last bring four bytes, which are stored, as those before any earlier poll are; the
last brings the fifth. -/
theorem freshFramerDeliversBuiltFrame : Obligations.FreshFramerDeliversBuiltFrame := by
  intro s c a d e polls rest hr hb h0 hpolls hlast hrx
  have hstart := storedSince_nil hr hb h0
  obtain ⟨init, rfl, hinit⟩ := polls_split_last (bytes := [c, a, d, e]) hpolls hlast
  refine ⟨?_, fun k hk => ?_⟩
  · have hv : (build c a d e).valid = true := Laws.EncodedShape.build_valid c a d e
    have hframe : s.rx = init ++ some (build c a d e).cks :: rest := by
      rw [hrx, List.append_assoc]
      rfl
    obtain ⟨u, hrun, hurx, hpos, hbusy, hdel⟩ := hstart.run_valid hv init hinit hframe
    exact ⟨u, by simpa using hrun, hbusy, hurx, hpos, hdel⟩
  · have hlen : k ≤ init.length := by
      rw [List.length_append] at hk
      exact Nat.le_of_lt_succ hk
    have hfour : (init.take k).reduceOption.length ≤ 4 :=
      (((List.take_sublist k init).filterMap id).length_le).trans_eq (congrArg List.length hinit)
    have hsplit : s.rx = init.take k ++ (init.drop k ++ some (c ^^^ a ^^^ d ^^^ e) :: rest) := by
      rw [hrx, ← List.append_assoc, List.take_append_drop, List.append_assoc]
      rfl
    obtain ⟨u, hrun, -, hs⟩ := hstart.run (init.take k) (by simpa using hfour) hsplit
    rw [List.length_take, Nat.min_eq_left hlen] at hrun
    exact ⟨u, hrun, hs.notBusy, hs.delivered_newEvents⟩

/-- Settles O32: the corrupted frame ends in RESYNC, which leaves the framer as a fresh one, and the next frame is received
by it; the second clause is the cancelling pair of 95_test_vectors.md section 2.1. -/
theorem corruptedByteCostsOneFrame : Obligations.CorruptedByteCostsOneFrame := by
  refine ⟨fun s good bad next rest j hr hb h0 hgood hnext hj hbad hrx => ?_, ?_⟩
  · rw [List.append_assoc, map_some_bytes_append] at hrx
    obtain ⟨u, hrun, hurx, hu⟩ := (storedSince_nil hr hb h0).run_invalid
      (Packet.invalid_of_one_changed hgood hj hbad) _ rfl hrx
    rw [map_some_bytes_append] at hurx
    obtain ⟨t, hrun', -, -, -, hdel⟩ := hu.run_valid hnext _ rfl hurx
    have hpos : u.pos = 0#3 := BitVec.eq_of_toNat_eq hu.pos_toNat
    exact ⟨⟨u, hrun, hpos, hu.notBusy, hu.delivered_newEvents, hu.error⟩, t, (run_add 5 5 hrun).trans hrun', hdel⟩
  · refine ⟨⟨0x8B#8, 0x02#8, 0x34#8, 0x12#8, 0xAF#8⟩, ⟨0x8A#8, 0x03#8, 0x34#8, 0x12#8, 0xAF#8⟩, by decide, by decide,
      fun s rest hr hb h0 hrx => ?_⟩
    rw [map_some_bytes_append] at hrx
    obtain ⟨t, hrun, -, -, -, hdel⟩ := (storedSince_nil hr hb h0).run_valid (by decide) _ rfl hrx
    exact ⟨t, hrun, hdel⟩

end Sys2Proof
end

section
/-!
The builder (41_builder.md): BUILD's frame (R90), how many attempts a SEND makes (R91), and that all a step attempts is whole
valid frames or frames cut at a refusal (R92).
-/
namespace Sys2Proof.Machine

/-! ### The attempts of one run of bytes (R91) -/

section
variable {bytes : List Byte} {s t : State} {ok : Bool}

/-- All answers are used and all bytes attempted, or the last answer is a refusal. -/
theorem Emits.attempts_end (h : Emits bytes s ok t) :
    (attempts (newEvents s t)).length = bytes.length
      ∨ (attempts (newEvents s t)).getLast?.map (·.2) = some false := by
  obtain ⟨answers, hlen, -, hatt, hok, hno, -⟩ := h.events
  rw [hatt, List.length_zip, Nat.min_eq_right hlen, ← List.getLast?_map, List.map_snd_zip hlen]
  cases ok with
  | true => exact .inl (hok.mp rfl).1
  | false => exact .inr (hno rfl)

/-- No more attempts than bytes. -/
theorem Emits.length_attempts_le (h : Emits bytes s ok t) : (attempts (newEvents s t)).length ≤ bytes.length := by
  obtain ⟨answers, -, -, hatt, -⟩ := h.events
  rw [hatt, List.length_zip]
  exact Nat.min_le_left ..

/-- The first byte is attempted. -/
theorem Emits.length_attempts_pos (h : Emits bytes s ok t) (hne : bytes ≠ []) :
    0 < (attempts (newEvents s t)).length := by
  obtain hall | hrefused := h.attempts_end
  · rw [hall]
    exact List.length_pos_of_ne_nil hne
  · refine List.length_pos_of_ne_nil fun hnil => ?_
    simp [hnil] at hrefused

/-- Only the last attempt can be a refusal. -/
theorem Emits.accepted_dropLast (h : Emits bytes s ok t) : ∀ x ∈ (attempts (newEvents s t)).dropLast, x.2 = true := by
  obtain ⟨answers, hlen, -, hatt, -, -, hinit⟩ := h.events
  intro x hx
  have hans : x.2 ∈ ((attempts (newEvents s t)).dropLast).map Prod.snd := List.mem_map_of_mem hx
  rw [hatt, List.map_dropLast, List.map_snd_zip hlen] at hans
  exact hinit _ hans

/-- The bytes attempted are a first part of those to be sent. -/
theorem Emits.attempted_first_part (h : Emits bytes s ok t) : (attempts (newEvents s t)).map (·.1) <+: bytes := by
  obtain ⟨answers, hlen, -, hatt, -⟩ := h.events
  have hmin : min bytes.length answers.length = answers.length := Nat.min_eq_right hlen
  rw [hatt, List.zip_eq_zip_take_min, hmin, List.map_fst_zip (by simp)]
  exact ⟨_, List.take_append_drop ..⟩

/-- Sending keeps the events before it. -/
theorem Emits.trace_grows (h : Emits bytes s ok t) : s.trace <+: t.trace := by
  obtain ⟨answers, -, rfl, -⟩ := h
  exact ⟨_, rfl⟩

end

/-! ### Whole frames and cut ones (R92) -/

/-- Attempts with their answers that are one valid frame's: all five bytes, or up to and including the first refused one. -/
def FrameRun (run : List (Byte × Bool)) : Prop :=
  ∃ p : Packet, p.valid = true ∧ run.map (·.1) <+: p.bytes ∧ (∀ x ∈ run.dropLast, x.2 = true)
    ∧ (run.length = 5 ∨ run.getLast?.map (·.2) = some false)

/-- Between `s` and `t` the trace grew, and its new attempts are runs of valid frames one after the other. -/
def SentFrames (s t : State) : Prop :=
  ∃ (es : List Event) (runs : List (List (Byte × Bool))), t.trace = s.trace ++ es ∧ attempts es = runs.flatten
    ∧ ∀ run ∈ runs, FrameRun run

section
variable {s t u : State}

/-- Only the events before and after count. -/
theorem SentFrames.congr {s' t' : State} (h : SentFrames s t) (hs : s'.trace = s.trace) (ht : t'.trace = t.trace) :
    SentFrames s' t' := by
  obtain ⟨es, runs, htr, hruns⟩ := h
  exact ⟨es, runs, by rw [ht, hs, htr], hruns⟩

/-- Nothing attempted is no run. -/
theorem SentFrames.of_no_attempts {es : List Event} (ht : t.trace = s.trace ++ es) (hes : attempts es = []) :
    SentFrames s t :=
  ⟨es, [], ht, hes, by simp⟩

theorem SentFrames.refl (s : State) : SentFrames s s := .of_no_attempts (es := []) (by simp) rfl

theorem SentFrames.trans (h : SentFrames s t) (h' : SentFrames t u) : SentFrames s u := by
  obtain ⟨es, runs, htr, hatt, hruns⟩ := h
  obtain ⟨es', runs', htr', hatt', hruns'⟩ := h'
  refine ⟨es ++ es', runs ++ runs', ?_, ?_, fun run hrun => ?_⟩
  · rw [htr', htr, List.append_assoc]
  · rw [attempts_append, hatt, hatt', List.flatten_append]
  · obtain hrun | hrun := List.mem_append.mp hrun
    · exact hruns run hrun
    · exact hruns' run hrun

/-- Sending a valid packet's bytes is one run. -/
theorem Emits.sentFrames {p : Packet} {ok : Bool} (h : Emits p.bytes s ok t) (hv : p.valid = true) :
    SentFrames s t := by
  refine ⟨newEvents s t, [attempts (newEvents s t)], trace_eq_append_newEvents h.trace_grows, by simp, ?_⟩
  rw [List.forall_mem_singleton]
  exact ⟨p, hv, h.attempted_first_part, h.accepted_dropLast, h.attempts_end⟩

/-- One SEND is one run (R90, R91). -/
theorem send_sentFrames (c p1 p2 p3 : Byte) (s : State) : SentFrames s (send c p1 p2 p3 s).2 :=
  (send_emits c p1 p2 p3 s).sentFrames (Laws.EncodedShape.build_valid c p1 p2 p3)

/-- Emissions one after the other, the second started or not (R100). -/
theorem andThen_sentFrames {f g : State → Bool × State} (hf : ∀ s, SentFrames s (f s).2)
    (hg : ∀ s, SentFrames s (g s).2) (s : State) : SentFrames s (andThen f g s).2 := by
  unfold andThen
  split
  · exact (hf s).trans (hg _)
  · exact hf s

/-! ### Every operation sends frames only -/

/-- A handler's body sends no packet (R105, R106), one (R103, R104) or three (R102). -/
theorem handlerBody_sentFrames (s u : State) : SentFrames u (handlerBody s u).2 := by
  obtain ⟨-, h⟩ | ⟨-, -, h⟩ | ⟨-, -, -, -, h⟩ | ⟨-, -, -, -, -, h⟩ | ⟨-, -, -, h⟩ :=
    decodeRequest_cases s.cfg s.latch <;> simp only [handlerBody, h]
  · exact andThen_sentFrames (andThen_sentFrames (fun _ => send_sentFrames ..) fun _ => send_sentFrames ..)
      (fun _ => send_sentFrames ..) u
  · exact send_sentFrames ..
  · exact send_sentFrames ..
  · exact .of_no_attempts (es := [.nvStore .towerNumber (wordOf s.latch.p2 s.latch.p3)]) rfl rfl
  · exact .refl u

/-- The events of a handler are those of its body (R101, R108). -/
theorem handler_trace (ack : Bool) (body : State → Bool × State) (s : State) :
    (handler ack body s).trace = (body (s.setError true)).2.trace := by
  rw [handler_eq]
  cases ack <;> rfl

/-- The epilogue sends one packet or none (R107). -/
theorem acknowledge_sentFrames (code : BitVec 7) (p1 p2 p3 : Byte) (s : State) :
    SentFrames s (acknowledge code p1 p2 p3 s) := by
  unfold acknowledge
  split
  · exact send_sentFrames ..
  · exact .refl s

/-- The framer attempts nothing. -/
theorem framer_attempts_nothing (hb : s.busy = false) (h : exec (fetch s) s = .next t) :
    attempts (newEvents s t) = [] := by
  obtain ⟨-, ⟨-, hn⟩ | ⟨b, -, ⟨-, hn⟩ | ⟨-, hn⟩ | ⟨-, hn⟩ | ⟨-, hn⟩⟩⟩ := framer_events hb h <;> rw [hn] <;> rfl

theorem exec_fetch_sentFrames (h : exec (fetch s) s = .next t) : SentFrames s t := by
  cases hb : s.busy with
  | false => exact .of_no_attempts (framer_events hb h).1 (framer_attempts_nothing hb h)
  | true =>
    obtain ⟨-, -, he⟩ | ⟨-, -, he⟩ := dispatcher_cases s hb <;> cases he.symm.trans h
    · exact (handlerBody_sentFrames s (s.setError true)).congr rfl (handler_trace ..)
    · exact (acknowledge_sentFrames ..).congr rfl rfl

end

end Sys2Proof.Machine

namespace Sys2Proof
open Machine

/-- Settles O33: the fifth byte is the checksum by definition. -/
theorem buildIsTheFrame : Obligations.BuildIsTheFrame := fun c p1 p2 p3 =>
  ⟨rfl, Laws.EncodedShape.build_valid c p1 p2 p3⟩

/-- Settles O34: SEND is the emission of the built frame's five bytes, of which the first is always attempted. -/
theorem sendStopsAtFirstRefusal : Obligations.SendStopsAtFirstRefusal := by
  intro c p1 p2 p3 s
  have hemits := send_emits c p1 p2 p3 s
  exact ⟨hemits, hemits.length_attempts_pos (List.cons_ne_nil _ _), hemits.length_attempts_le⟩

/-- Settles O37: each `Send` of the step's operation is one run, and the operation sends one packet after the other. -/
theorem onlyWholeFramesOrCutOnes : Obligations.OnlyWholeFramesOrCutOnes := by
  intro s t hr h
  rw [step_of_running hr] at h
  obtain ⟨es, runs, htr, hruns⟩ := exec_fetch_sentFrames h
  rw [newEvents_of_trace htr]
  exact ⟨runs, hruns⟩

end Sys2Proof
end

section
/-!
The dispatcher (42_dispatcher.md): what the handler of each command sends and leaves (R102 to R106), and the
acknowledgment epilogue after it (R107).
-/
namespace Sys2Proof.Machine

/-! ### The acknowledgment's command byte (R107) -/

/-- A command byte whose flag is set, with the flag cleared and set again. -/
theorem codeOf_or_ackMask {cmd : Byte} (ha : ackBit cmd = true) : codeOf cmd ||| 0x80#8 = cmd := by
  rw [← cons_ackBit_codeField cmd, ha, codeOf_cons]
  exact cmdByte_cons true (codeField cmd)

/-- Clearing a set flag is flipping it. -/
theorem codeOf_eq_xor_ackMask {cmd : Byte} (ha : ackBit cmd = true) : codeOf cmd = cmd ^^^ 0x80#8 := by
  rw [← cons_ackBit_codeField cmd, ha, codeOf_cons, ackMask_eq_cons, BitVec.cons_xor_cons, BitVec.xor_zero]
  rfl

/-- A valid packet is what BUILD makes of its data bytes (R90). -/
theorem build_eq_of_valid {p : Packet} (hv : p.valid = true) : build p.cmd p.p1 p.p2 p.p3 = p := by
  rw [build, ← p.valid_iff.mp hv]

/-- A positive acknowledgment is byte for byte its request. -/
theorem build_positive_ack {p : Packet} (hv : p.valid = true) (ha : ackBit p.cmd = true) :
    build (codeOf p.cmd ||| 0x80#8) p.p1 p.p2 p.p3 = p := by
  rw [codeOf_or_ackMask ha, build_eq_of_valid hv]

/-- A negative acknowledgment is its request with bit 7 of the command and of the checksum flipped. -/
theorem build_negative_ack {p : Packet} (hv : p.valid = true) (ha : ackBit p.cmd = true) :
    build (codeOf p.cmd) p.p1 p.p2 p.p3 = { p with cmd := p.cmd ^^^ 0x80#8, cks := p.cks ^^^ 0x80#8 } := by
  rw [codeOf_eq_xor_ackMask ha, build, checksum_xor_cmd, ← p.valid_iff.mp hv]

/-! ### The handler's step (R100, R101) -/

section
variable {s : State} (hb : s.busy = true) (hp : s.phase = .handler)
include hb hp

/-- Before its handler, the command a request decodes to runs that handler. -/
theorem exec_command {i : Instr} {body : State → Bool × State} (hi : decodeRequest s.cfg s.latch = i)
    (hbody : handlerBody s = body) : exec i s = .next (handler (ackBit s.latch.cmd) body s) := by
  subst hi hbody
  obtain ⟨-, hf, he⟩ | ⟨hp', -⟩ := dispatcher_cases s hb
  · rw [← hf, he]
  · cases hp.symm.trans hp'

/-- A command whose body sends `bytes` attempts them, and `error` tells whether all were accepted (R101). -/
theorem exec_command_emits {i : Instr} {bytes : List Byte} {body : State → Bool × State}
    (hi : decodeRequest s.cfg s.latch = i) (hbody : handlerBody s = body)
    (hsend : ∀ t : State, t.cfg = s.cfg → t.towerNumber = s.towerNumber → body t = sendBytes bytes t) :
    ∃ ok u, Emits bytes s ok u
      ∧ exec i s = .next { u with
          error := !ok, busy := ackBit s.latch.cmd
          phase := if ackBit s.latch.cmd then .epilogue else .handler } := by
  obtain ⟨ok, u, hemits, hh⟩ := handler_emits (ackBit s.latch.cmd) bytes body s hsend hb
  exact ⟨ok, u, hemits, by rw [exec_command hb hp hi hbody, hh]⟩

end

/-! ### From the handler to the epilogue (R107, R108) -/

/-- A handler's body leaves the latched packet and `busy`. -/
theorem handlerBody_frame (s u : State) :
    (handlerBody s u).2.latch = u.latch ∧ (handlerBody s u).2.busy = u.busy := by
  obtain ⟨-, h⟩ | ⟨-, -, h⟩ | ⟨-, -, -, -, h⟩ | ⟨-, -, -, -, -, h⟩ | ⟨-, -, -, h⟩ :=
    decodeRequest_cases s.cfg s.latch <;> simp only [handlerBody, h]
  · rw [startup_body u u rfl rfl, sendBytes_frame]
    exact ⟨rfl, rfl⟩
  · rw [version_body u u rfl, sendBytes_frame]
    exact ⟨rfl, rfl⟩
  · rw [towerNumber_body u u rfl rfl, sendBytes_frame]
    exact ⟨rfl, rfl⟩
  · exact ⟨rfl, rfl⟩
  · trivial

/-- After a handler the `Handle` goes on exactly when an acknowledgment is asked for, and then with the epilogue. -/
theorem handler_continues {s : State} (hb : s.busy = true) (ack : Bool) :
    (handler ack (handlerBody s) s).busy = ack
      ∧ (ack = true → fetch (handler ack (handlerBody s) s) = ackOf s.latch) := by
  obtain ⟨hlatch, hbusy⟩ := handlerBody_frame s (s.setError true)
  rw [handler_eq]
  cases ack with
  | false => exact ⟨rfl, nofun⟩
  | true => simp [afterHandler_true, fetch, hlatch, hbusy, hb]

/-- In the epilogue's place, with an acknowledgment asked for, the step is the SEND of that acknowledgment and the end of
`Handle`. -/
theorem exec_ackOf {s : State} (hb : s.busy = true) (hp : s.phase = .epilogue) (ha : ackBit s.latch.cmd = true) :
    exec (ackOf s.latch) s
      = .next (send (ackCommand s.error (codeField s.latch.cmd)) s.latch.p1 s.latch.p2 s.latch.p3 s).2.endHandle := by
  obtain ⟨hp', -⟩ | ⟨-, hf, he⟩ := dispatcher_cases s hb
  · cases hp.symm.trans hp'
  · rw [← hf, he, acknowledge, if_pos ha]

end Sys2Proof.Machine

namespace Sys2Proof
open Machine

/-- Settles O39: the handler's body sends the three packets' bytes as one run. -/
theorem getStartupSendsThree : Obligations.GetStartupSendsThree := by
  intro s _ hb hp hcmd
  have hi := (decodeRequest_eq_getStartup_iff s.latch).mpr hcmd
  exact exec_command_emits hb hp hi (by rw [handlerBody, hi]) (startup_body s)

/-- Settles O40: the handler's body sends the Version packet's bytes, which no parameter of the request enters. -/
theorem getVersionSendsVersion : Obligations.GetVersionSendsVersion := by
  intro s hok hb hp hcmd
  have hi := (decodeRequest_eq_getVersion_iff s.latch hok).mpr hcmd
  exact exec_command_emits hb hp hi (by rw [handlerBody, hi]) fun t hc _ => version_body s t hc

/-- Settles O41: the handler's body sends the Tower-Number packet's bytes with the register's two. -/
theorem towerNumberGetSendsCurrent : Obligations.TowerNumberGetSendsCurrent := by
  intro s hok hb hp hcmd hget
  have hi := (decodeRequest_eq_towerNumberGet_iff s.latch hok).mpr ⟨hcmd, hget⟩
  exact exec_command_emits hb hp hi (by rw [handlerBody, hi]) (towerNumber_body s)

/-- Settles O44: the epilogue's step is the SEND of the acknowledgment; a handler leads to it exactly when bit 7 is set;
and the two acknowledgments differ from a valid request in the flag and its checksum bit at most. -/
theorem ackEpilogue : Obligations.AckEpilogue := by
  refine ⟨fun s hb hp ha => ?_, fun s t hb hp h => ?_,
    fun p hv ha => ⟨build_positive_ack hv ha, build_negative_ack hv ha⟩⟩
  · rw [← ackCommand_codeField]
    exact ⟨_, _, send_emits .., exec_ackOf hb hp ha⟩
  · have hf : fetch s = decodeRequest s.cfg s.latch := by simp [fetch, hb, hp]
    cases (exec_command hb hp hf.symm rfl).symm.trans h
    obtain ⟨hbusy, hfetch⟩ := handler_continues hb (ackBit s.latch.cmd)
    exact ⟨hbusy, fun ht => hfetch (hbusy.symm.trans ht)⟩

/-- Settles O42: the handler writes and stores one word, whose low and high bytes are the packet's. -/
theorem towerNumberSetWrites : Obligations.TowerNumberSetWrites := by
  intro s hok hb hp hcmd hset
  have hi := (decodeRequest_eq_towerNumberSet_iff s.latch hok).mpr ⟨hcmd, hset⟩
  refine ⟨?_, BitVec.extractLsb'_append_eq_right, BitVec.extractLsb'_append_eq_left⟩
  rw [exec_command hb hp hi (by rw [handlerBody, hi]), handler_set _ _ s hb]
  rfl

/-- Settles O43: the handler of UNMATCHED leaves everything but `error` and the place in `Handle`. -/
theorem unmatchedDoesNothing : Obligations.UnmatchedDoesNothing := by
  intro s hb hp hstartup hversion htower
  have hi := (decodeRequest_eq_unmatched_iff s.latch).mpr ⟨hstartup, hversion, htower⟩
  rw [exec_command hb hp hi (by rw [handlerBody, hi]), handler_unmatched _ s hb]

end Sys2Proof
end

section
/-!
Reset and hazards (70_reset_and_hazards.md): what reset writes (R140), that nothing is transmitted outside a `Handle` (R142),
and the interlock between framer and dispatcher (R145).
-/
namespace Sys2Proof.Machine

/-! ### A step with `rst` high (R140) -/

/-- With `rst` high the step is `Reset`, whatever the state selects. -/
theorem step_of_high {s : State} {r : List RstInput} (hok : s.cfg.ok = true) (hrst : s.rst = .high :: r) :
    step s = .next (applyReset s.popRst) := by
  simp [step, stepWith, underReset, hok, hrst]

section
variable {s t : State}

/-! ### Outside a `Handle` -/

/-- Outside a `Handle` the operation selected is one of the framer's (R62). -/
theorem isFramerOp_fetch_of_not_busy (hb : s.busy = false) : isFramerOp (fetch s) = true := by
  obtain ⟨-, hf, -⟩ | ⟨b, -, ⟨-, hf, -⟩ | ⟨-, -, hf, -⟩ | ⟨-, -, hf, -⟩ | ⟨-, ⟨-, hf⟩ | ⟨-, hf⟩, -⟩⟩ :=
    framer_cases s hb
  all_goals rw [hf, isFramerOp]

/-- COMPLETE sets `busy` (R73), and no other framer operation does. -/
theorem framer_busy_iff (hb : s.busy = false) (h : exec (fetch s) s = .next t) :
    t.busy = true ↔ fetch s = .complete := by
  obtain ⟨-, hf, he⟩ | ⟨b, -, ⟨-, hf, he⟩ | ⟨-, -, hf, he⟩ | ⟨-, -, hf, he⟩ | ⟨-, hf, he⟩⟩ := framer_cases s hb <;>
    cases he.symm.trans h
  · simp [hf, hb]
  · simp [hf, hb]
  · simp [hf, deliver]
  · simp [hf, hb]
  · obtain ⟨-, hf⟩ | ⟨-, hf⟩ := hf <;> simp [hf, hb, defensiveByte]

/-- A framer operation that delivers nothing starts no `Handle`. -/
theorem framer_not_busy_of_no_delivery (hb : s.busy = false) (h : exec (fetch s) s = .next t)
    (hd : delivered (newEvents s t) = []) : t.busy = false := by
  rw [← Bool.not_eq_true, framer_busy_iff hb h]
  intro hf
  obtain ⟨b, -, hn⟩ : ∃ b, s.rxPeek = some b ∧ newEvents s t = [.taken b, .deliver (s.buf.packet b)] := by
    simpa [hf] using (framer_events hb h).2
  simp [hn, delivered] at hd

/-- Outside a `Handle` no step attempts anything, the host's resets included (R142). -/
theorem step_attempts_nothing (hb : s.busy = false) (h : step s = .next t) : attempts (newEvents s t) = [] := by
  obtain ⟨-, ⟨-, he⟩ | ⟨r, -, he⟩ | ⟨r, -, rfl⟩ | ⟨k, r, u, -, he, rfl⟩⟩ := step_cases h
  · exact framer_attempts_nothing hb he
  · exact framer_attempts_nothing (s := s.popRst) hb he
  · rw [newEvents_base (s := s) (s' := s.popRst) rfl, newEvents_applyReset]
    rfl
  · rw [newEvents_base (s := s) (s' := s.popRst) rfl, newEvents_cutAt, attempts_append, attempts_keepAttempts,
      framer_attempts_nothing (s := s.popRst) hb he, List.take_nil]
    rfl

/-- Outside a `Handle` a step that delivers nothing starts none; a reset never does (R140). -/
theorem step_not_busy_of_no_delivery (hb : s.busy = false) (h : step s = .next t)
    (hd : delivered (newEvents s t) = []) : t.busy = false := by
  obtain ⟨-, ⟨-, he⟩ | ⟨r, -, he⟩ | ⟨r, -, rfl⟩ | ⟨k, r, u, -, -, rfl⟩⟩ := step_cases h
  · exact framer_not_busy_of_no_delivery hb he hd
  · exact framer_not_busy_of_no_delivery (s := s.popRst) hb he hd
  · rfl
  · rfl

/-! ### Inside a `Handle` -/

/-- The dispatcher leaves source, cursor and buffer as they are (R145). -/
theorem dispatcher_leaves_framer (hb : s.busy = true) (h : exec (fetch s) s = .next t) :
    t.rx = s.rx ∧ t.pos = s.pos ∧ t.buf = s.buf ∧ takenBytes (newEvents s t) = [] := by
  obtain ⟨bytes, ok, u, e, p, b, hemits, -, rfl⟩ | ⟨e, p, b, a, p2, p3, -, rfl⟩ := dispatcher_shape hb h
  · obtain ⟨htaken, -⟩ := hemits.quiet
    obtain ⟨answers, -, rfl, -⟩ := hemits
    exact ⟨rfl, rfl, rfl, htaken⟩
  · refine ⟨rfl, rfl, rfl, ?_⟩
    rw [newEvents_of_trace rfl]
    rfl

/-- A `Handle` ends with its epilogue, or with its handler when no acknowledgment is asked for (R108). -/
theorem dispatcher_ends_iff (hb : s.busy = true) (h : exec (fetch s) s = .next t) :
    t.busy = false ↔ s.phase = .epilogue ∨ ackBit s.latch.cmd = false := by
  obtain ⟨hp, -, he⟩ | ⟨hp, -, he⟩ := dispatcher_cases s hb <;> cases he.symm.trans h
  · obtain ⟨hbusy, -⟩ := handler_continues hb (ackBit s.latch.cmd)
    simp [hbusy, hp]
  · simp [hp]

/-! ### Nothing before the first delivery (R142) -/

/-- Every step appends to the events (R42). -/
theorem step_appends_newEvents (h : step s = .next t) : t.trace = s.trace ++ newEvents s t := by
  apply trace_eq_append_newEvents
  obtain ⟨-, ⟨-, he⟩ | ⟨r, -, he⟩ | ⟨r, -, rfl⟩ | ⟨k, r, u, -, -, rfl⟩⟩ := step_cases h
  · obtain ⟨es, -, htr, -⟩ := exec_fetch_sentFrames he
    exact ⟨es, htr.symm⟩
  · obtain ⟨es, -, htr, -⟩ := exec_fetch_sentFrames (s := s.popRst) he
    exact ⟨es, htr.symm⟩
  · exact ⟨[.reset], rfl⟩
  · exact ⟨keepAttempts k (newEvents s.popRst u) ++ [.reset], (List.append_assoc ..).symm⟩

/-- As long as no packet has been delivered, nothing has been attempted and no `Handle` is in progress. -/
def SilentBeforeDelivery (s : State) : Prop :=
  delivered s.trace = [] → attempts s.trace = [] ∧ s.busy = false

/-- Every step keeps it: without a delivery before and in it, it is a step outside a `Handle` that starts none. -/
theorem step_keeps_silentBeforeDelivery (hs : SilentBeforeDelivery s) (h : step s = .next t) :
    SilentBeforeDelivery t := by
  have htrace := step_appends_newEvents h
  intro hd
  rw [htrace, delivered_append, List.append_eq_nil_iff] at hd
  obtain ⟨hold, hnew⟩ := hd
  obtain ⟨hatt, hb⟩ := hs hold
  refine ⟨?_, step_not_busy_of_no_delivery hb h hnew⟩
  rw [htrace, attempts_append, hatt, step_attempts_nothing hb h, List.nil_append]

end

end Sys2Proof.Machine

namespace Sys2Proof
open Machine

/-- Settles O38: outside a `Handle` no step attempts anything, and a run is outside one until its first delivery. -/
theorem transmitsOnlyInsideHandle : Obligations.TransmitsOnlyInsideHandle := by
  refine ⟨fun s t h hne => ?_, fun n c rx sink storage rst t h hd => ?_⟩
  · cases hb : s.busy with
    | false => exact absurd (step_attempts_nothing hb h) hne
    | true => exact ⟨rfl, isFramerOp_fetch_of_busy hb⟩
  · have hsilent : SilentBeforeDelivery t :=
      run_keeps (fun _ _ => step_keeps_silentBeforeDelivery) n (fun _ => ⟨rfl, rfl⟩) h
    exact (hsilent hd).1

/-- Settles O53: the framer's operations outside a `Handle`, the dispatcher's inside one, and what each leaves in `busy`. -/
theorem busyInterlock : Obligations.BusyInterlock := by
  intro s hr
  refine ⟨⟨fun hf => ?_, isFramerOp_fetch_of_not_busy⟩, fun t h => ?_⟩
  · rw [← Bool.not_eq_true]
    intro hb
    exact Bool.false_ne_true ((isFramerOp_fetch_of_busy hb).symm.trans hf)
  · rw [step_of_running hr] at h
    exact ⟨fun hb => dispatcher_leaves_framer hb h, fun hb => framer_busy_iff hb h, fun hb => dispatcher_ends_iff hb h⟩

/-- Settles O16: with `rst` high the step is `Reset`, whose writes are read off field by field. -/
theorem resetWrites : Obligations.ResetWrites := by
  intro s r hok hrst
  refine ⟨_, step_of_high hok hrst, rfl, rfl, rfl, rfl, rfl, rfl, rfl, rfl, rfl, ?_, rfl⟩
  rw [applyReset_rst, popRst_rst, hrst, List.tail_cons]

end Sys2Proof
end

section
/-!
The decoders against the encoder (30_encoding.md sections 1 to 9): what each decoder reads from a valid frame, what a row's
encoding decodes to, and that a received frame is the encoding of what it decodes to.
-/
namespace Sys2Proof
open Machine

/-! ### Command bytes of a configuration (R4, R52) -/

/-- What `ConfigOK` (R4) says of the size of the codes: bit 7 is clear. -/
theorem Config.codes_le_of_ok {c : Config} (hok : c.ok = true) :
    c.cmdStartup ≤ 0x7F#8 ∧ c.cmdVersion ≤ 0x7F#8 ∧ c.cmdTowerNumber ≤ 0x7F#8 := by
  simp only [Config.ok, Bool.and_eq_true, decide_eq_true_eq] at hok
  obtain ⟨⟨⟨⟨-, hs⟩, hv⟩, ht⟩, -⟩ := hok
  exact ⟨hs, hv, ht⟩

/-- A code of at most `0x7F` is its 7-bit field with the flag clear. -/
theorem cons_false_codeField {code : Byte} (h : code ≤ 0x7F#8) : BitVec.cons false (codeField code) = code := by
  have ha : ackBit code = false := by
    rw [ackBit, ← BitVec.msb_eq_getLsbD_last code, BitVec.msb_eq_false_iff_two_mul_lt]
    bv_omega
  rw [← ha, cons_ackBit_codeField]

/-- Flag and code are read back from a command byte made of them (R52). -/
theorem fields_cmdByte (a : Bool) {code : Byte} (h : code ≤ 0x7F#8) :
    ackBit (cmdByte a code) = a ∧ codeOf (cmdByte a code) = code := by
  rw [← cons_false_codeField h, cmdByte_cons, ackBit_cons, codeOf_cons]
  exact ⟨rfl, rfl⟩

/-- A command byte over a 7-bit code. -/
theorem cmdByte_setWidth (a : Bool) (code : BitVec 7) : cmdByte a (code.setWidth 8) = BitVec.cons a code := by
  rw [setWidth_code_eq_cons, cmdByte_cons]

/-- Every command byte is made of its own flag and code (R52). -/
theorem cmdByte_ackBit_codeOf (cmd : Byte) : cmdByte (ackBit cmd) (codeOf cmd) = cmd := by
  obtain ⟨-, -, -, h⟩ := commandByteFields.1 cmd
  exact h.symm

/-! ### The frame decoder (R50, R51, R61) -/

/-- The bytes of a valid packet decode to it. -/
theorem decodeFrame_bytes {p : Packet} (hv : p.valid = true) : decodeFrame p.bytes = .ok p := if_pos hv

/-- Five bytes whose checksum fails are refused (R61). -/
theorem decodeFrame_bytes_of_invalid {p : Packet} (hv : p.valid = false) :
    decodeFrame p.bytes = .error .badChecksum := if_neg (by simpa using hv)

/-- Bytes that are not five are no frame (R50). -/
theorem decodeFrame_of_length_ne {bs : List Byte} (h : bs.length ≠ 5) : decodeFrame bs = .error .wrongLength := by
  match bs, h with
  | [], _ | [_], _ | [_, _], _ | [_, _, _], _ | [_, _, _, _], _ => rfl
  | [_, _, _, _, _], h => exact absurd rfl h
  | _ :: _ :: _ :: _ :: _ :: _ :: _, _ => rfl

/-- What decodes as a frame are the bytes of a valid packet, and nothing else. -/
theorem decodeFrame_ok {bs : List Byte} {p : Packet} (h : decodeFrame bs = .ok p) : p.valid = true ∧ bs = p.bytes := by
  unfold decodeFrame at h
  split at h
  · split at h
    · cases h
      exact ⟨‹_›, rfl⟩
    · cases h
  · cases h

section
variable (c : Config) {p : Packet}

/-- The receive direction reads a valid packet as its request (R55). -/
theorem decode_rx_bytes (hv : p.valid = true) : decode c .rx p.bytes = .ok (decodeRequest c p.request) := by
  rw [decode, decodeFrame_bytes hv]

/-- What is no frame is refused for the same reason in the receive direction (R61, R63). -/
theorem decode_rx_error {bs : List Byte} {e : DecodeError} (h : decodeFrame bs = .error e) :
    decode c .rx bs = .error e := by
  rw [decode, h]

/-- The epilogue reads a valid packet that asks for an acknowledgment (R107). -/
theorem decode_epilogue_bytes (hv : p.valid = true) (ha : ackBit p.cmd = true) :
    decode c .epilogue p.bytes = .ok (ackOf p.request) := by
  rw [decode, decodeFrame_bytes hv]
  exact if_pos ha

/-- The transmit direction checks a valid packet against its kind's row (R59). -/
theorem decode_tx_bytes (k : TxKind) (hv : p.valid = true) : decode c (.tx k) p.bytes = decodeSent c k p := by
  rw [decode, decodeFrame_bytes hv]

/-- The selector's layout decodes to the operation it selects (R62). -/
theorem decode_poll_toByte (q : Selector) : decode c .poll [q.toByte] = .ok (decodeSelector q) := by
  obtain ⟨havail, hpos, heq, hzero⟩ := q.toByte_fields
  rw [decode, decodePollWord, if_pos hzero, Selector.ofByte, havail, hpos, heq]

/-- A built frame decodes to the command of its four data bytes. -/
theorem decode_rx_build (cmd p1 p2 p3 : Byte) :
    decode c .rx (build cmd p1 p2 p3).bytes = .ok (decodeRequest c ⟨cmd, p1, p2, p3⟩) :=
  decode_rx_bytes c (Laws.EncodedShape.build_valid cmd p1 p2 p3)

/-- What the receive direction decodes is the request of a valid packet with just those bytes. -/
theorem decode_rx_ok {bs : List Byte} {i : Instr} (h : decode c .rx bs = .ok i) :
    ∃ p : Packet, p.valid = true ∧ bs = p.bytes ∧ i = decodeRequest c p.request := by
  rw [decode] at h
  split at h
  next p hp =>
    cases h
    obtain ⟨hv, hbs⟩ := decodeFrame_ok hp
    exact ⟨p, hv, hbs, rfl⟩
  next => cases h

end

/-! ### The received rows (R55) -/

section
variable {c : Config} (hok : c.ok = true) (a : Bool) (p1 p2 p3 : Byte)
include hok

theorem decodeRequest_startup_row :
    decodeRequest c ⟨cmdByte a c.cmdStartup, p1, p2, p3⟩ = .getStartup a p1 p2 p3 := by
  obtain ⟨hle, -⟩ := Config.codes_le_of_ok hok
  obtain ⟨ha, hcode⟩ := fields_cmdByte a hle
  rw [(decodeRequest_eq_getStartup_iff _).mpr hcode, ha]

theorem decodeRequest_version_row :
    decodeRequest c ⟨cmdByte a c.cmdVersion, p1, p2, p3⟩ = .getVersion a p1 p2 p3 := by
  obtain ⟨-, hle, -⟩ := Config.codes_le_of_ok hok
  obtain ⟨ha, hcode⟩ := fields_cmdByte a hle
  rw [(decodeRequest_eq_getVersion_iff _ hok).mpr hcode, ha]

theorem decodeRequest_towerNumberGet_row :
    decodeRequest c ⟨cmdByte a c.cmdTowerNumber, c.subGet, p2, p3⟩ = .towerNumberGet a p2 p3 := by
  obtain ⟨-, -, hle⟩ := Config.codes_le_of_ok hok
  obtain ⟨ha, hcode⟩ := fields_cmdByte a hle
  rw [(decodeRequest_eq_towerNumberGet_iff _ hok).mpr ⟨hcode, rfl⟩, ha]

theorem decodeRequest_towerNumberSet_row :
    decodeRequest c ⟨cmdByte a c.cmdTowerNumber, c.subSet, p2, p3⟩ = .towerNumberSet a p2 p3 := by
  obtain ⟨-, -, hle⟩ := Config.codes_le_of_ok hok
  obtain ⟨ha, hcode⟩ := fields_cmdByte a hle
  rw [(decodeRequest_eq_towerNumberSet_iff _ hok).mpr ⟨hcode, rfl⟩, ha]

end

/-- When no row before UNMATCHED matches, as the decoder's condition (R55, R60). -/
theorem Config.matchesCommand_eq_false_iff (c : Config) (code : BitVec 7) (p1 : Byte) :
    c.matchesCommand code p1 = false ↔ BitVec.cons false code ≠ c.cmdStartup ∧ BitVec.cons false code ≠ c.cmdVersion
      ∧ ¬(BitVec.cons false code = c.cmdTowerNumber ∧ (p1 = c.subGet ∨ p1 = c.subSet)) := by
  rw [Config.matchesCommand, setWidth_code_eq_cons]
  simp [and_assoc]

theorem decodeRequest_unmatched_row {c : Config} (a : Bool) {code : BitVec 7} {p1 : Byte} (p2 p3 : Byte)
    (hwf : c.matchesCommand code p1 = false) :
    decodeRequest c ⟨cmdByte a (code.setWidth 8), p1, p2, p3⟩ = .unmatched a code p1 p2 p3 := by
  have hrow := (decodeRequest_eq_unmatched_iff (c := c) ⟨BitVec.cons a code, p1, p2, p3⟩).mpr
    (by simpa only [codeOf_cons] using (c.matchesCommand_eq_false_iff code p1).mp hwf)
  rwa [ackBit_cons, codeField_cons, ← cmdByte_setWidth] at hrow

/-- The encoder gives a decoded request its own four bytes back (R50, R51). -/
theorem encode_decodeRequest (c : Config) (r : Request) :
    encode c (decodeRequest c r) = (.rx, (build r.cmd r.p1 r.p2 r.p3).bytes) := by
  have hcmd := cmdByte_ackBit_codeOf r.cmd
  obtain ⟨hc, h⟩ | ⟨-, hc, h⟩ | ⟨-, -, hc, hg, h⟩ | ⟨-, -, hc, -, hs, h⟩ | ⟨-, -, -, h⟩ := decodeRequest_cases c r
  · rw [h, encode, ← hc, hcmd]
  · rw [h, encode, ← hc, hcmd]
  · rw [h, encode, ← hc, hcmd, hg]
  · rw [h, encode, ← hc, hcmd, hs]
  · rw [h, encode, cmdByte_setWidth, cons_ackBit_codeField]

/-- A decoded request is an instruction the tables can express (R60). -/
theorem wf_decodeRequest (c : Config) (r : Request) : (decodeRequest c r).wf c = true := by
  obtain ⟨-, h⟩ | ⟨-, -, h⟩ | ⟨-, -, -, -, h⟩ | ⟨-, -, -, -, -, h⟩ | ⟨hs, hv, hn, h⟩ := decodeRequest_cases c r
  case inr.inr.inr.inr =>
    have hcode : codeOf r.cmd = BitVec.cons false (codeField r.cmd) := by
      rw [← codeOf_cons (ackBit r.cmd), cons_ackBit_codeField]
    rw [hcode] at hs hv hn
    rw [h, Instr.wf, (c.matchesCommand_eq_false_iff _ _).mpr ⟨hs, hv, hn⟩, Bool.not_false]
  all_goals rw [h, Instr.wf]

/-! ### The statements -/

/-- Settles O1: one lemma for each place a word can stand, and one for each received row. -/
theorem decodeInvertsEncode : Obligations.DecodeInvertsEncode := by
  intro c i hok hwf
  have hbuild := Laws.EncodedShape.build_valid
  cases i with
  | getStartup a p1 p2 p3 => exact (decode_rx_build ..).trans (by rw [decodeRequest_startup_row hok])
  | getVersion a p1 p2 p3 => exact (decode_rx_build ..).trans (by rw [decodeRequest_version_row hok])
  | towerNumberGet a p2 p3 => exact (decode_rx_build ..).trans (by rw [decodeRequest_towerNumberGet_row hok])
  | towerNumberSet a p2 p3 => exact (decode_rx_build ..).trans (by rw [decodeRequest_towerNumberSet_row hok])
  | unmatched a code p1 p2 p3 =>
    rw [Instr.wf, Bool.not_eq_true'] at hwf
    exact (decode_rx_build ..).trans (by rw [decodeRequest_unmatched_row a p2 p3 hwf])
  | ack code p1 p2 p3 =>
    simp only [encode, cmdByte_setWidth]
    have ha : ackBit (build (BitVec.cons true code) p1 p2 p3).cmd = true := ackBit_cons true code
    rw [decode_epilogue_bytes c (hbuild ..) ha]
    simp [ackOf, build, Packet.request]
  | idle | store | complete | resync | defensive5 | defensive67 => exact decode_poll_toByte c _
  | startupPacket | versionPacket => exact (decode_tx_bytes c _ (hbuild ..)).trans (if_pos rfl)
  | towerNumberPacket lo hi => exact (decode_tx_bytes c _ (hbuild ..)).trans (if_pos ⟨rfl, rfl⟩)
  | ackPositive code p1 p2 p3 | ackNegative code p1 p2 p3 =>
    simp only [encode, cmdByte_setWidth]
    rw [decode_tx_bytes c _ (hbuild ..)]
    simp [decodeSent, build]

/-- Settles O2: what decodes are the bytes of a valid packet, and both well-formedness and encoding are facts about its
request. -/
theorem receivedFrameReencodes : Obligations.ReceivedFrameReencodes := by
  intro c bs i _ h
  obtain ⟨p, hv, rfl, rfl⟩ := decode_rx_ok c h
  refine ⟨wf_decodeRequest c p.request, ?_⟩
  rw [encode_decodeRequest]
  exact congrArg (fun q : Packet => (Channel.rx, q.bytes)) (build_eq_of_valid hv)

/-- Settles O5: by the frame decoder's three cases. -/
theorem onlyValidFramesDecode : Obligations.OnlyValidFramesDecode := by
  intro c bs
  refine ⟨fun hlen => decode_rx_error c (decodeFrame_of_length_ne hlen), ?_⟩
  rintro a p1 p2 p3 k rfl
  have hvalid : (Packet.mk a p1 p2 p3 k).valid = true ↔ a ^^^ p1 ^^^ p2 ^^^ p3 = k :=
    (Packet.valid_iff _).trans eq_comm
  refine ⟨fun hne => ?_, fun heq => decode_rx_bytes c (hvalid.mpr heq)⟩
  have hinvalid : (Packet.mk a p1 p2 p3 k).valid = false := by
    rw [← Bool.not_eq_true, hvalid]
    exact hne
  exact decode_rx_error c (decodeFrame_bytes_of_invalid hinvalid)

/-- Settles O10: the frames' checksums hold and their codes are the default ones. -/
theorem specWordsDecode : Obligations.SpecWordsDecode := ⟨rfl, rfl, rfl, rfl, rfl, rfl, rfl⟩

/-- Settles O11: the frame of a command's text is the encoding of the command, and a raw text's frame is built of its own
four bytes. -/
theorem textAssemblesToItsCommand : Obligations.TextAssemblesToItsCommand := by
  intro c x hok
  cases x with
  | getStartup a p1 p2 p3 =>
    exact ⟨Laws.EncodedShape.build_valid .., decodeInvertsEncode c (.getStartup a p1 p2 p3) hok rfl⟩
  | getVersion a p1 p2 p3 =>
    exact ⟨Laws.EncodedShape.build_valid .., decodeInvertsEncode c (.getVersion a p1 p2 p3) hok rfl⟩
  | towerNumberGet a p2 p3 =>
    exact ⟨Laws.EncodedShape.build_valid .., decodeInvertsEncode c (.towerNumberGet a p2 p3) hok rfl⟩
  | towerNumberSet a v =>
    exact ⟨Laws.EncodedShape.build_valid .., decodeInvertsEncode c (.towerNumberSet a (lsb v) (msb v)) hok rfl⟩
  | raw cmd p1 p2 p3 => exact ⟨Laws.EncodedShape.build_valid .., decode_rx_build ..⟩

/-- Settles O13: the latched request is the packet's, and before the handler the request is what is fetched. -/
theorem fetchIsDecode : Obligations.FetchIsDecode := by
  intro s p hb hp hv hl
  have hf : fetch s = decodeRequest s.cfg s.latch := by simp [fetch, hb, hp]
  rw [hf, hl, decode_rx_bytes s.cfg hv]

end Sys2Proof
end

section
/-!
What a step answers and what it leaves unchanged: the step under each sample of `rst` (R5, R140, R141), its refusals (R131),
and the frame of the framer's operations, of the dispatcher's and of the sent packets (10_state.md sections 1 to 4).
-/
namespace Sys2Proof.Machine

section
variable {s t u : State} {r : List RstInput}

/-! ### The step under each sample of `rst` -/

theorem popRst_eq {x : RstInput} (hrst : s.rst = x :: r) : s.popRst = { s with rst := r } := by
  simp [State.popRst, hrst]

theorem popRst_of_nil (hrst : s.rst = []) : s.popRst = s := by
  have hs : s = { s with rst := [] } := by rw [← hrst]
  rw [hs]
  rfl

/-- With `rst` sampled low the step is the selected operation. -/
theorem step_of_low (hok : s.cfg.ok = true) (hrst : s.rst = .low :: r) : step s = exec (fetch s) s.popRst := by
  simp [step, stepWith, underReset, hok, hrst]

/-- With `rst` raised inside the step, the selected operation is abandoned and `Reset` follows (R141). -/
theorem step_of_during {k : Nat} (hok : s.cfg.ok = true) (hrst : s.rst = .during k :: r)
    (he : exec (fetch s) s.popRst = .next u) : step s = .next (applyReset (cutAt k s.popRst u)) := by
  simp [step, stepWith, underReset, hok, hrst, he]

/-- A configuration that violates `ConfigOK` is refused (R131). -/
theorem step_of_not_ok (hok : s.cfg.ok = false) : step s = .refused .configNotOK := by
  simp [step, stepWith, hok]

/-- What a step can do, once its sample of `rst` is used up: the selected operation, `Reset`, or a part of the operation and
then `Reset`. -/
theorem step_popRst_cases (h : step s = .next t) :
    exec (fetch s.popRst) s.popRst = .next t
    ∨ t = applyReset s.popRst
    ∨ ∃ k u, exec (fetch s.popRst) s.popRst = .next u ∧ t = applyReset (cutAt k s.popRst u) := by
  obtain ⟨-, ⟨hrst, he⟩ | ⟨r, -, he⟩ | ⟨r, -, ht⟩ | ⟨k, r, u, -, he, ht⟩⟩ := step_cases h
  · rw [popRst_of_nil hrst]
    exact .inl he
  · exact .inl he
  · exact .inr (.inl ht)
  · exact .inr (.inr ⟨k, u, he, ht⟩)

/-- A configuration that satisfies `ConfigOK` lets every step answer, whatever `rst` is. -/
theorem step_answers (hok : s.cfg.ok = true) : ∃ t, step s = .next t := by
  obtain ⟨u, he⟩ := exec_fetch_answers s.popRst
  cases hrst : s.rst with
  | nil =>
    rw [step_of_running ⟨hok, hrst⟩]
    exact exec_fetch_answers s
  | cons x r =>
    cases x with
    | low => exact ⟨u, (step_of_low hok hrst).trans he⟩
    | high => exact ⟨_, step_of_high hok hrst⟩
    | during k => exact ⟨_, step_of_during hok hrst he⟩

/-! ### What a command refuses (R131) -/

/-- Every command runs under the guard of R131. -/
theorem exec_command_eq {i : Instr} (hi : isCommand i = true) : ∃ f, exec i s = commandOp i f s := by
  match i, hi with
  | .getStartup .., _ | .getVersion .., _ | .towerNumberGet .., _ | .towerNumberSet .., _ | .unmatched .., _ =>
    exact ⟨_, rfl⟩

theorem commandOp_of_epilogue {i : Instr} {f : State → State} (hb : s.busy = true) (hp : s.phase = .epilogue) :
    commandOp i f s = .refused .reentered := by
  simp [commandOp, hb, hp]

theorem commandOp_of_not_fetched {i : Instr} {f : State → State} (hb : s.busy = true) (hp : s.phase = .handler)
    (hf : fetch s ≠ i) : commandOp i f s = .refused .notSelected := by
  have hdecode : decodeRequest s.cfg s.latch ≠ i := by simpa [fetch, hb, hp] using hf
  simp [commandOp, hb, hp, hdecode]

/-! ### The framer's frame (10_state.md section 1) -/

/-- A framer operation runs only where the state selects it. -/
theorem framerOp_selected {i : Instr} (hi : isFramerOp i = true) (h : exec i s = .next t) :
    s.busy = false ∧ fetch s = i := by
  have hpoll : ∃ f, exec i s = pollOp i f s := by
    match i, hi with
    | .idle, _ | .store, _ | .complete, _ | .resync, _ | .defensive5, _ | .defensive67, _ => exact ⟨_, rfl⟩
  obtain ⟨f, hpoll⟩ := hpoll
  obtain ⟨hb, hsel, -⟩ := pollOp_next (hpoll ▸ h)
  exact ⟨hb, by rw [fetch, if_pos hb, hsel]⟩

/-- The framer writes its own registers, the dispatcher's, the source and the events, and nothing else. -/
theorem framer_frame (hb : s.busy = false) (h : exec (fetch s) s = .next t) :
    t = { s with
      pos := t.pos, buf := t.buf, busy := t.busy, latch := t.latch, phase := t.phase
      rx := s.rx.tail, trace := t.trace } := by
  obtain ⟨-, -, he⟩ | ⟨b, -, ⟨-, -, he⟩ | ⟨-, -, -, he⟩ | ⟨-, -, -, he⟩ | ⟨-, -, he⟩⟩ := framer_cases s hb
  all_goals
    cases he.symm.trans h
    rfl

/-- Only COMPLETE touches the dispatcher's registers (R73). -/
theorem framer_leaves_dispatcher (hb : s.busy = false) (h : exec (fetch s) s = .next t) (hf : fetch s ≠ .complete) :
    t.busy = s.busy ∧ t.latch = s.latch ∧ t.phase = s.phase := by
  obtain ⟨-, -, he⟩ | ⟨b, -, ⟨-, -, he⟩ | ⟨-, -, hc, -⟩ | ⟨-, -, -, he⟩ | ⟨-, -, he⟩⟩ := framer_cases s hb
  case inr.inr.inl => exact absurd hc hf
  all_goals
    cases he.symm.trans h
    exact ⟨rfl, rfl, rfl⟩

/-- IDLE and DEFENSIVE leave the buffer (R71, R75). -/
theorem framer_leaves_buf (hb : s.busy = false) (h : exec (fetch s) s = .next t)
    (hf : fetch s = .idle ∨ fetch s = .defensive5 ∨ fetch s = .defensive67) : t.buf = s.buf := by
  obtain ⟨-, -, he⟩ | ⟨b, -, ⟨-, hi, -⟩ | ⟨-, -, hi, -⟩ | ⟨-, -, hi, -⟩ | ⟨-, -, he⟩⟩ := framer_cases s hb
  case inl | inr.inr.inr.inr =>
    cases he.symm.trans h
    rfl
  all_goals simp [hi] at hf

/-- The framer stores nothing. -/
theorem framer_stores_nothing (hb : s.busy = false) (h : exec (fetch s) s = .next t) : stores (newEvents s t) = [] := by
  obtain ⟨-, ⟨-, hn⟩ | ⟨b, -, ⟨-, hn⟩ | ⟨-, hn⟩ | ⟨-, hn⟩ | ⟨-, hn⟩⟩⟩ := framer_events hb h <;> rw [hn] <;> rfl

/-- DEFENSIVE (R75), at any cursor out of range. -/
theorem framer_defensive {b : Byte} {rest : List (Option Byte)} (hb : s.busy = false) (hrx : s.rx = some b :: rest)
    (hgt : 4#3 < s.pos) :
    (s.pos = 5#3 ∧ fetch s = .defensive5 ∨ s.pos ≠ 5#3 ∧ fetch s = .defensive67)
    ∧ exec (fetch s) s = .next { s with rx := rest, pos := 0#3, trace := s.trace ++ [.taken b, .posFault] } := by
  have hrange : ¬ s.pos ≤ 3#3 ∧ s.pos ≠ 4#3 := by bv_omega
  have hcases := framer_cases s hb
  simp only [rxPeek_cons_some s b rest hrx, hrange] at hcases
  obtain ⟨-, hf, he⟩ : 4#3 < s.pos ∧ _ := by simpa using hcases
  rw [popRx_emit_taken_eq hrx] at he
  refine ⟨by simpa using hf, he.trans ?_⟩
  simp [defensiveByte, State.setFramer, State.emit]

/-! ### The dispatcher's frame (10_state.md section 3) -/

/-- The dispatcher writes Tower Number, its own registers, the sink, storage and the events, and nothing else. -/
theorem dispatcher_frame (hb : s.busy = true) (h : exec (fetch s) s = .next t) :
    t = { s with
      towerNumber := t.towerNumber, error := t.error, busy := t.busy, phase := t.phase
      sink := t.sink, storage := t.storage, trace := t.trace, draws := t.draws } := by
  obtain ⟨bytes, ok, u, e, p, b, ⟨answers, -, rfl, -⟩, -, rfl⟩ | ⟨e, p, b, a, p2, p3, -, rfl⟩ := dispatcher_shape hb h
  · rfl
  · rfl

/-- No operation writes the configuration, Tower Mode or the reset input. -/
theorem exec_fetch_frame (h : exec (fetch s) s = .next t) :
    t.cfg = s.cfg ∧ t.towerMode = s.towerMode ∧ t.rst = s.rst := by
  cases hb : s.busy with
  | false =>
    rw [framer_frame hb h]
    exact ⟨rfl, rfl, rfl⟩
  | true =>
    rw [dispatcher_frame hb h]
    exact ⟨rfl, rfl, rfl⟩

theorem step_keeps_cfg (h : step s = .next t) : t.cfg = s.cfg := by
  obtain he | rfl | ⟨k, u, he, rfl⟩ := step_popRst_cases h
  · exact (exec_fetch_frame he).1
  · rfl
  · exact (exec_fetch_frame he).1

end

end Sys2Proof.Machine

namespace Sys2Proof
open Machine

/-- Settles O12: with `rst` empty or low the step is the operation selected before the sample is used up. -/
theorem stepRunsFetched : Obligations.StepRunsFetched := by
  refine fun s hok => ⟨fun hrst => step_of_running ⟨hok, hrst⟩, fun r hrst => ?_⟩
  rw [step_of_low hok hrst, popRst_eq hrst]

/-- Settles O14, by the four samples of `rst`. -/
theorem everyStepAnswers : Obligations.EveryStepAnswers := fun _ hok => step_answers hok

/-- Settles O15: the guards of the framer's operations and of the commands; and a step answers, or its configuration is
refused. -/
theorem refusedConditions : Obligations.RefusedConditions := by
  refine ⟨fun s => step_of_not_ok, fun i s hb hi => exec_framerOp_of_busy hb hi, fun i s hb hi hp => ?_,
    fun i s hb hi hp hf => ?_, fun s => ?_⟩
  · obtain ⟨f, hf⟩ := exec_command_eq (s := s) hi
    rw [hf, commandOp_of_epilogue hb hp]
  · obtain ⟨f, he⟩ := exec_command_eq (s := s) hi
    rw [he, commandOp_of_not_fetched hb hp hf]
  · cases hok : s.cfg.ok with
    | false => simp [step_of_not_ok hok]
    | true =>
      obtain ⟨t, ht⟩ := step_answers hok
      simp [ht]

/-- Settles O18: the reset state's fields are these, and the default codes are distinct and have bit 7 clear. -/
theorem resetState : Obligations.ResetState := ⟨rfl, rfl, rfl, rfl, rfl, rfl⟩

/-- Settles O23: 5, 6 and 7 are the cursors above 4, where one rule holds. -/
theorem defensiveDropsByte : Obligations.DefensiveDropsByte := by
  refine fun s b r hb hrx => ⟨fun h5 => ?_, fun h67 => ?_⟩
  · obtain ⟨⟨-, hf⟩ | ⟨hne, -⟩, he⟩ := framer_defensive hb hrx (by bv_omega)
    · exact hf ▸ he
    · exact absurd h5 hne
  · obtain ⟨⟨h5, -⟩ | ⟨-, hf⟩, he⟩ := framer_defensive hb hrx (by bv_omega)
    · simp [h5] at h67
    · exact hf ▸ he

/-- Settles O24, by the framer's frame and its events. -/
theorem framerFrame : Obligations.FramerFrame := by
  intro i s t hi h
  obtain ⟨hb, rfl⟩ := framerOp_selected hi h
  have hframe := framer_frame hb h
  refine ⟨?_, ?_, ?_, ?_, ?_, ?_, ?_, ?_, ?_, framer_attempts_nothing hb h, framer_stores_nothing hb h,
    framer_leaves_dispatcher hb h, framer_leaves_buf hb h⟩
  all_goals rw [hframe]

/-- Settles O35: inside a `Handle` each row is its SEND, outside one all are refused. -/
theorem sentPacketsAreTheirRows : Obligations.SentPacketsAreTheirRows := by
  intro s lo hi p1 p2 p3 code
  have hsend : ∀ f, s.busy = true → sendOp f s = .next (f s).2 := fun f hb => if_pos hb
  have hrefuse : ∀ f, s.busy = false → sendOp f s = .refused .outsideHandle := fun f hb => if_neg (by simp [hb])
  exact ⟨fun hb => ⟨hsend _ hb, hsend _ hb, hsend _ hb, hsend _ hb, hsend _ hb⟩,
    fun hb => ⟨hrefuse _ hb, hrefuse _ hb, hrefuse _ hb, hrefuse _ hb, hrefuse _ hb⟩⟩

/-- Settles O36: each row is the SEND of its four data bytes, whose built frame is the row's encoding. -/
theorem sentPacketFrame : Obligations.SentPacketFrame := by
  intro i s t hi h
  match i, hi with
  | .startupPacket, _ | .versionPacket, _ | .towerNumberPacket _ _, _ | .ackPositive _ _ _ _, _
  | .ackNegative _ _ _ _, _ =>
    obtain ⟨-, rfl⟩ := sendOp_next h
    exact ⟨_, send_emits ..⟩

/-- Settles O58: no operation writes the configuration, nor does `Reset`. -/
theorem stepKeepsConfiguration : Obligations.StepKeepsConfiguration := fun _ _ => step_keeps_cfg

end Sys2Proof
end

section
/-!
Events and invariants (20_memory.md sections 4 and 6, 70_reset_and_hazards.md section 1): what the events of one operation
can be, what a reset inside a step leaves (R141), and the invariants every step keeps.
-/
namespace Sys2Proof.Machine

section
variable {s t u : State}

/-! ### The events of one operation -/

/-- Every operation appends its events (R42). -/
theorem exec_fetch_appends_newEvents (h : exec (fetch s) s = .next t) : t.trace = s.trace ++ newEvents s t := by
  obtain ⟨es, -, htr, -⟩ := exec_fetch_sentFrames h
  rw [newEvents_of_trace htr, htr]

/-- The events of a dispatcher's step: attempts alone, or the store event of a SET alone (R105). -/
theorem dispatcher_events (hb : s.busy = true) (h : exec (fetch s) s = .next t) :
    (∃ bytes ok u, Emits bytes s ok u ∧ newEvents s t = newEvents s u ∧ t.towerNumber = s.towerNumber
        ∧ t.storage = s.storage)
    ∨ ∃ a p2 p3, fetch s = .towerNumberSet a p2 p3 ∧ newEvents s t = [.nvStore .towerNumber (p3 ++ p2)]
        ∧ t.towerNumber = p3 ++ p2 ∧ t.storage = s.storage.map fun w => { w with towerNumber := p3 ++ p2 } := by
  obtain ⟨bytes, ok, u, e, p, b, hemits, -, rfl⟩ | ⟨e, p, b, a, p2, p3, hf, rfl⟩ := dispatcher_shape hb h
  · refine .inl ⟨bytes, ok, u, hemits, newEvents_congr rfl, ?_⟩
    obtain ⟨answers, -, rfl, -⟩ := hemits
    exact ⟨rfl, rfl⟩
  · exact .inr ⟨a, p2, p3, hf, newEvents_of_trace rfl, rfl, rfl⟩

/-- An operation that attempts something takes no byte and stores nothing: no step both receives or stores and sends. -/
theorem exec_fetch_attempts_or_rest (h : exec (fetch s) s = .next t) :
    attempts (newEvents s t) = [] ∨ takenBytes (newEvents s t) = [] ∧ stores (newEvents s t) = [] := by
  cases hb : s.busy with
  | false => exact .inl (framer_attempts_nothing hb h)
  | true =>
    obtain ⟨bytes, ok, u, hemits, hn, -⟩ | ⟨a, p2, p3, -, hn, -⟩ := dispatcher_events hb h
    · obtain ⟨htaken, -, hstores, -⟩ := hemits.quiet
      exact .inr (hn ▸ ⟨htaken, hstores⟩)
    · exact .inl (by rw [hn]; rfl)

/-- No operation records a reset. -/
theorem exec_fetch_no_reset (h : exec (fetch s) s = .next t) : .reset ∉ newEvents s t := by
  cases hb : s.busy with
  | false =>
    obtain ⟨-, ⟨-, hn⟩ | ⟨b, -, ⟨-, hn⟩ | ⟨-, hn⟩ | ⟨-, hn⟩ | ⟨-, hn⟩⟩⟩ := framer_events hb h <;> simp [hn]
  | true =>
    obtain ⟨bytes, ok, u, hemits, hn, -⟩ | ⟨a, p2, p3, -, hn, -⟩ := dispatcher_events hb h
    · obtain ⟨-, -, -, hreset, -⟩ := hemits.quiet
      exact hn ▸ hreset
    · simp [hn]

/-- Only a framer's operation at a cursor out of range raises the cursor fault (R75). -/
theorem exec_fetch_posFault_iff (h : exec (fetch s) s = .next t) :
    .posFault ∈ newEvents s t ↔ fetch s = .defensive5 ∨ fetch s = .defensive67 := by
  cases hb : s.busy with
  | false =>
    obtain ⟨-, ⟨hf, hn⟩ | ⟨b, -, ⟨hf, hn⟩ | ⟨hf, hn⟩ | ⟨hf, hn⟩ | ⟨hf | hf, hn⟩⟩⟩ := framer_events hb h <;>
      simp [hf, hn]
  | true =>
    have hno : .posFault ∉ newEvents s t := by
      obtain ⟨bytes, ok, u, hemits, hn, -⟩ | ⟨a, p2, p3, -, hn, -⟩ := dispatcher_events hb h
      · obtain ⟨-, -, -, -, hfault⟩ := hemits.quiet
        exact hn ▸ hfault
      · simp [hn]
    have hf := isFramerOp_fetch_of_busy hb
    refine iff_of_false hno fun hd => ?_
    obtain hd | hd := hd <;> simp [hd, isFramerOp] at hf

/-! ### Reset inside a step (R141) -/

/-- A list of events without an attempt is not cut. -/
theorem keepAttempts_of_no_attempts (k : Nat) {es : List Event} (h : attempts es = []) : keepAttempts k es = es := by
  induction es with
  | nil => cases k <;> rfl
  | cons e es ih =>
    cases e with
    | attempt b a => simp [attempts] at h
    | _ => cases k <;> exact congrArg _ (ih h)

/-- Cutting an operation's attempts takes none of its store events and none of its received bytes away. -/
theorem keepAttempts_newEvents (k : Nat) (h : exec (fetch s) s = .next t) :
    stores (keepAttempts k (newEvents s t)) = stores (newEvents s t)
    ∧ takenBytes (keepAttempts k (newEvents s t)) = takenBytes (newEvents s t) := by
  obtain hatt | ⟨htaken, hstores⟩ := exec_fetch_attempts_or_rest h
  · rw [keepAttempts_of_no_attempts k hatt]
    exact ⟨rfl, rfl⟩
  · have hkept := keepAttempts_prefixed k (newEvents s t)
    rw [htaken, hstores]
    exact ⟨List.sublist_nil.mp (hstores ▸ (hkept.filterMap _).sublist),
      List.sublist_nil.mp (htaken ▸ (hkept.filterMap _).sublist)⟩

/-- The abandoned step uses as many of the sink's answers as it made attempts. -/
theorem sink_cutAt (k : Nat) (s u : State) :
    (applyReset (cutAt k s u)).sink = s.sink.drop (attempts (newEvents s (applyReset (cutAt k s u)))).length := by
  rw [newEvents_cutAt, attempts_append]
  simp [cutAt, countAttempts_eq, attempts]

/-! ### Invariants -/

theorem cursorLegal_of_zero (h : s.pos = 0#3) : CursorLegal s := by simp [CursorLegal, h]

/-- The framer leaves the cursor in 0 to 4 (R11). -/
theorem framer_cursorLegal (hb : s.busy = false) (h : exec (fetch s) s = .next t) (hs : CursorLegal s) :
    CursorLegal t := by
  obtain ⟨-, -, he⟩ | ⟨b, -, ⟨h3, -, he⟩ | ⟨-, -, -, he⟩ | ⟨-, -, -, he⟩ | ⟨-, -, he⟩⟩ := framer_cases s hb <;>
    cases he.symm.trans h
  · exact hs
  · show s.pos + 1#3 ≤ 4#3
    bv_omega
  all_goals exact cursorLegal_of_zero rfl

theorem exec_fetch_cursorLegal (h : exec (fetch s) s = .next t) (hs : CursorLegal s) : CursorLegal t := by
  cases hb : s.busy with
  | false => exact framer_cursorLegal hb h hs
  | true =>
    obtain ⟨-, hpos, -⟩ := dispatcher_leaves_framer hb h
    rw [CursorLegal, hpos]
    exact hs

/-- At a legal cursor DEFENSIVE is not selected (R75). -/
theorem fetch_not_defensive (hs : CursorLegal s) : ¬(fetch s = .defensive5 ∨ fetch s = .defensive67) := by
  unfold CursorLegal at hs
  cases hb : s.busy with
  | false =>
    obtain ⟨-, hf, -⟩ | ⟨b, -, ⟨-, hf, -⟩ | ⟨-, -, hf, -⟩ | ⟨-, -, hf, -⟩ | ⟨hgt, -⟩⟩ := framer_cases s hb
    case inr.inr.inr.inr => bv_omega
    all_goals simp [hf]
  | true =>
    have hf := isFramerOp_fetch_of_busy hb
    rintro (hd | hd) <;> simp [hd, isFramerOp] at hf

/-- Every step keeps the cursor in 0 to 4 and raises no cursor fault, the host's resets included. -/
theorem step_cursorLegal (hs : CursorLegal s) (h : step s = .next t) :
    CursorLegal t ∧ .posFault ∉ newEvents s t := by
  have hs' : CursorLegal s.popRst := hs
  have hno : ∀ {u}, exec (fetch s.popRst) s.popRst = .next u → .posFault ∉ newEvents s.popRst u := fun he hmem =>
    fetch_not_defensive hs' ((exec_fetch_posFault_iff he).mp hmem)
  rw [newEvents_base (s := s) (s' := s.popRst) rfl]
  obtain he | rfl | ⟨k, u, he, rfl⟩ := step_popRst_cases h
  · exact ⟨exec_fetch_cursorLegal he hs', hno he⟩
  · rw [newEvents_applyReset]
    exact ⟨cursorLegal_of_zero rfl, by simp⟩
  · rw [newEvents_cutAt, List.mem_append, not_or]
    exact ⟨cursorLegal_of_zero rfl, fun hmem => hno he ((keepAttempts_prefixed k _).subset hmem), by simp⟩

theorem step_keeps_deliveredValid (hs : DeliveredValid s) (h : step s = .next t) : DeliveredValid t := by
  intro p hp
  rw [step_appends_newEvents h, delivered_append, List.mem_append] at hp
  exact hp.elim (hs p) (step_delivers_valid h)

/-- COMPLETE latches the packet it delivers, before its handler (R73, R100). -/
theorem framer_begins (hb : s.busy = false) (h : exec (fetch s) s = .next t) (ht : t.busy = true) :
    t.phase = .handler ∧ ∃ p, delivered (newEvents s t) = [p] ∧ t.latch = p.request := by
  have hf := (framer_busy_iff hb h).mp ht
  obtain ⟨-, hi, -⟩ | ⟨b, -, ⟨-, hi, -⟩ | ⟨-, -, -, he⟩ | ⟨-, -, hi, -⟩ | ⟨-, ⟨-, hi⟩ | ⟨-, hi⟩, -⟩⟩ :=
    framer_cases s hb
  case inr.inr.inl =>
    cases he.symm.trans h
    refine ⟨rfl, s.buf.packet b, ?_, rfl⟩
    rw [newEvents_of_trace (es := [.taken b, .deliver (s.buf.packet b)]) (by simp [deliver])]
    rfl
  all_goals cases hi.symm.trans hf

/-- Every step keeps a `Handle` about the packet delivered last (R100): COMPLETE starts it, and the dispatcher goes on with
the epilogue only where an acknowledgment is asked for (R107). -/
theorem exec_fetch_keeps_handleInOrder (hs : HandleInOrder s) (h : exec (fetch s) s = .next t) : HandleInOrder t := by
  intro ht
  have htrace := exec_fetch_appends_newEvents h
  cases hb : s.busy with
  | false =>
    obtain ⟨hp, p, hdel, hl⟩ := framer_begins hb h ht
    refine ⟨?_, by simp [hp]⟩
    rw [htrace, delivered_append, hdel, hl]
    simp
  | true =>
    obtain ⟨hlast, -⟩ := hs hb
    have hl : t.latch = s.latch := by rw [dispatcher_frame hb h]
    refine ⟨?_, fun _ => ?_⟩
    · rw [htrace, delivered_append, dispatcher_delivers_nothing hb h, List.append_nil, hlast, hl]
    · have hends : ¬ t.busy = false := by simp [ht]
      rw [dispatcher_ends_iff hb h, not_or, Bool.not_eq_false] at hends
      exact hl ▸ hends.2

theorem step_keeps_handleInOrder (hs : HandleInOrder s) (h : step s = .next t) : HandleInOrder t := by
  obtain he | rfl | ⟨k, u, -, rfl⟩ := step_popRst_cases h
  · exact exec_fetch_keeps_handleInOrder (s := s.popRst) hs he
  · exact nofun
  · exact nofun

end

end Sys2Proof.Machine

namespace Sys2Proof
open Machine

/-- Settles O17: the operation is run, its events cut after `k` attempts, and `Reset` follows. -/
theorem resetInsideHandle : Obligations.ResetInsideHandle := by
  intro s k r hok hrst
  obtain ⟨u, he⟩ := exec_fetch_answers s.popRst
  obtain ⟨hstores, htaken⟩ := keepAttempts_newEvents k he
  have hn := newEvents_cutAt k s.popRst u
  have hbase := newEvents_base (s := s) (s' := s.popRst) (t := applyReset (cutAt k s.popRst u)) rfl
  have hbase' := newEvents_base (s := s) (s' := s.popRst) (t := u) rfl
  refine ⟨u, _, by rw [← popRst_eq hrst]; exact he, step_of_during hok hrst he, ?_, ?_, ?_, by simp, ?_,
    rfl, rfl, rfl, rfl, rfl, rfl, rfl⟩
  · rw [hbase, hbase', hn, attempts_append, attempts_keepAttempts]
    exact List.append_nil _
  · rw [hbase, hbase', hn, stores_append, hstores]
    exact List.append_nil _
  · rw [hbase, hbase', hn, takenBytes_append, htaken]
    exact List.append_nil _
  · rw [hbase]
    exact sink_cutAt k s.popRst u

/-- Settles O26: STORE moves the cursor from at most 3, COMPLETE and RESYNC to 0, and DEFENSIVE is not reached. -/
theorem stepKeepsCursorLegal : Obligations.StepKeepsCursorLegal := fun _ _ => step_cursorLegal

/-- Settles O27: the packets delivered after a step are those before it and those of the step. -/
theorem stepKeepsDeliveredValid : Obligations.StepKeepsDeliveredValid := fun _ _ => step_keeps_deliveredValid

/-- Settles O28: each operation continues, ends or leaves the block in progress, and a reset starts the count again. -/
theorem stepKeepsAlignment : Obligations.StepKeepsAlignment := fun _ _ => step_keeps_aligned

/-- Settles O29: nothing has been taken or delivered, and no `Handle` is in progress. -/
theorem invariantsHoldAtReset : Obligations.InvariantsHoldAtReset :=
  ⟨cursorLegal_of_zero rfl, nofun, aligned_reset _ _ _ _ _, nofun⟩

/-- Settles O50, by the operations; a reset leaves no `Handle` in progress. -/
theorem stepKeepsHandleInOrder : Obligations.StepKeepsHandleInOrder := fun _ _ => step_keeps_handleInOrder

/-- Settles O59: every step appends its events, and no operation records a reset. -/
theorem traceOnlyGrows : Obligations.TraceOnlyGrows := by
  intro s t h
  refine ⟨⟨_, (step_appends_newEvents h).symm⟩, fun hrst => ?_⟩
  obtain ⟨hok, -⟩ := step_cases h
  rw [step_of_running ⟨hok, hrst⟩] at h
  exact exec_fetch_no_reset h

end Sys2Proof
end

section
/-!
The whole of a `Handle` (42_dispatcher.md): each command by the bytes it sends, the flag `error` it leaves, the steps of a
`Handle` against the function the spec writes, its end, and the table of outcomes.
-/
namespace Sys2Proof.Machine

/-! ### What a command sends -/

/-- The bytes a command's handler sends when all are accepted (R102 to R106), under a configuration and with a value of Tower
Number. -/
def response (c : Config) (v : Word16) : Instr → List Byte
  | .getStartup _ _ _ _ => (build c.cmdStartup c.startupP1 c.startupP2 c.startupP3).bytes
      ++ (build c.cmdVersion c.versionP1 c.versionP2 c.versionP3).bytes
      ++ (build c.cmdTowerNumber c.tnRespP1 (v.extractLsb' 0 8) (v.extractLsb' 8 8)).bytes
  | .getVersion _ _ _ _ => (build c.cmdVersion c.versionP1 c.versionP2 c.versionP3).bytes
  | .towerNumberGet _ _ _ => (build c.cmdTowerNumber c.tnRespP1 (v.extractLsb' 0 8) (v.extractLsb' 8 8)).bytes
  | _ => []

theorem length_response_le (c : Config) (v : Word16) (i : Instr) : (response c v i).length ≤ 15 := by
  cases i <;> simp [response, Packet.bytes]

/-- The command is not UNMATCHED (R106). -/
def isMatched : Instr → Bool
  | .unmatched _ _ _ _ _ => false
  | _ => true

theorem isMatched_iff (i : Instr) : isMatched i = true ↔ ∀ a code p1 p2 p3, i ≠ .unmatched a code p1 p2 p3 := by
  cases i with
  | unmatched a code p1 p2 p3 => exact iff_of_false nofun fun h => h a code p1 p2 p3 rfl
  | _ => exact iff_of_true rfl nofun

/-- Tower Number after a command: the operand of a SET (R105), and what it was otherwise. -/
def numberAfter (v : Word16) : Instr → Word16
  | .towerNumberSet _ p2 p3 => p3 ++ p2
  | _ => v

section
variable {s t u : State} {bytes : List Byte} {ok : Bool}

/-- A sequence of attempts succeeded exactly when each was accepted (R91). -/
theorem Emits.ok_iff (h : Emits bytes s ok t) : ok = true ↔ ∀ x ∈ attempts (newEvents s t), x.2 = true := by
  obtain ⟨answers, hlen, -, hatt, hok, hno, -⟩ := h.events
  have hanswers : (attempts (newEvents s t)).map Prod.snd = answers := by rw [hatt, List.map_snd_zip hlen]
  have hall : (∀ x ∈ attempts (newEvents s t), x.2 = true) ↔ ∀ a ∈ answers, a = true := by
    rw [← hanswers, List.forall_mem_map]
  rw [hall]
  refine ⟨fun h => (hok.mp h).2, fun hanswers => ?_⟩
  cases ok with
  | true => rfl
  | false => exact absurd (hanswers false (List.mem_of_getLast? (hno rfl))) Bool.false_ne_true

/-- A sink that accepts enough attempts accepts all the bytes. -/
theorem Emits.of_accepting {n : Nat} {r : List Bool} (h : Emits bytes s ok t)
    (hsink : s.sink = List.replicate n true ++ r) (hn : bytes.length ≤ n) :
    ok = true ∧ attempts (newEvents s t) = bytes.map (fun b => (b, true))
      ∧ t.sink = List.replicate (n - bytes.length) true ++ r := by
  obtain ⟨answers, hlen, ht, -, hok, hno, hscript⟩ := h
  have hall : answers = List.replicate answers.length true := by
    rw [List.take_of_length_le (by simp [hsink]; omega), hsink, List.take_append_of_le_length (by simp; omega),
      List.take_replicate, Nat.min_eq_left (by omega)] at hscript
    exact hscript
  have htrue : ok = true := by
    cases ok with
    | true => rfl
    | false =>
      have hmem := List.mem_of_getLast? (hno rfl)
      rw [hall] at hmem
      exact absurd (List.eq_of_mem_replicate hmem) Bool.false_ne_true
  obtain ⟨hlength, -⟩ := hok.mp htrue
  rw [hlength] at hall
  have htrace : t.trace = s.trace ++ (bytes.zip answers).map fun x => Event.attempt x.1 x.2 := by rw [ht]
  refine ⟨htrue, ?_, ?_⟩
  · rw [newEvents_of_trace htrace, attempts_map, hall, ← List.map_const', ← List.zip_map']
    simp
  · rw [ht]
    simp [hsink, hlength, List.drop_append_of_le_length, hn]

/-- What is accepted when every attempt is. -/
theorem accepted_of_attempts {es : List Event} (h : attempts es = bytes.map fun b => (b, true)) :
    accepted es = bytes ∧ (attempts es).map (·.1) = bytes := by
  simp [accepted, h, List.filter_map, Function.comp_def]

/-! ### What the dispatcher fetches -/

theorem isCommand_decodeRequest (c : Config) (r : Request) : isCommand (decodeRequest c r) = true := by
  obtain ⟨-, h⟩ | ⟨-, -, h⟩ | ⟨-, -, -, -, h⟩ | ⟨-, -, -, -, -, h⟩ | ⟨-, -, -, h⟩ := decodeRequest_cases c r
  all_goals rw [h, isCommand]

/-- Before its handler a `Handle` has the request's command to run (R100). -/
theorem fetch_of_handler (hb : s.busy = true) (hp : s.phase = .handler) : fetch s = decodeRequest s.cfg s.latch := by
  simp [fetch, hb, hp]

/-- That command's step is its handler. -/
theorem exec_fetch_of_handler (hb : s.busy = true) (hp : s.phase = .handler) :
    exec (fetch s) s = .next (handler (ackBit s.latch.cmd) (handlerBody s) s) := by
  rw [fetch_of_handler hb hp, exec_command hb hp rfl rfl]

/-- Before its epilogue it has the acknowledgment (R107). -/
theorem fetch_of_epilogue (hb : s.busy = true) (hp : s.phase = .epilogue) : fetch s = ackOf s.latch := by
  simp [fetch, hb, hp]

/-- A command is fetched before a handler only. -/
theorem handler_of_isCommand_fetch (hf : isCommand (fetch s) = true) : s.busy = true ∧ s.phase = .handler := by
  cases hb : s.busy with
  | false =>
    have hframer := isFramerOp_fetch_of_not_busy hb
    cases hi : fetch s <;> simp [hi, isCommand, isFramerOp] at hf hframer
  | true =>
    obtain ⟨hp, -⟩ | ⟨-, hack, -⟩ := dispatcher_cases s hb
    · exact ⟨rfl, hp⟩
    · simp [hack, ackOf, isCommand] at hf

/-- The request that decodes to the command fetched. -/
theorem decodeRequest_of_fetch {i : Instr} (hi : isCommand i = true) (hf : fetch s = i) :
    s.busy = true ∧ s.phase = .handler ∧ decodeRequest s.cfg s.latch = i := by
  obtain ⟨hb, hp⟩ := handler_of_isCommand_fetch (hf ▸ hi)
  exact ⟨hb, hp, (fetch_of_handler hb hp).symm.trans hf⟩

/-! ### What a handler's step leaves -/

/-- SET (R105), where it is fetched. -/
theorem exec_towerNumberSet {a : Bool} {p2 p3 : Byte} (hf : fetch s = .towerNumberSet a p2 p3) :
    exec (.towerNumberSet a p2 p3) s = .next { s with
      towerNumber := p3 ++ p2
      storage := s.storage.map fun w => { w with towerNumber := p3 ++ p2 }
      trace := s.trace ++ [.nvStore .towerNumber (p3 ++ p2)]
      error := false, busy := ackBit s.latch.cmd
      phase := if ackBit s.latch.cmd then .epilogue else .handler } := by
  obtain ⟨hb, hp, hi⟩ := decodeRequest_of_fetch rfl hf
  rw [exec_command hb hp hi (by rw [handlerBody, hi]), handler_set _ _ s hb]
  rfl

/-- From `s` to `t` the handler of `i` has attempted its response as from `s` to `u`, with result `ok`, and left `error` and
Tower Number accordingly (R101). -/
structure HandlerOutcome (i : Instr) (s : State) (ok : Bool) (u t : State) : Prop where
  emits : Emits (response s.cfg s.towerNumber i) s ok u
  attempts : attempts (newEvents s t) = attempts (newEvents s u)
  sink : t.sink = u.sink
  error : t.error = !(ok && isMatched i)
  number : t.towerNumber = numberAfter s.towerNumber i

/-- A command that sends its response and then goes on has that outcome. -/
theorem handlerOutcome_of_emits {i : Instr} {b : Bool} {p : Phase} (hmatched : isMatched i = true)
    (hnumber : numberAfter s.towerNumber i = s.towerNumber) (h : exec i s = .next t)
    (he : ∃ ok u, Emits (response s.cfg s.towerNumber i) s ok u
      ∧ exec i s = .next { u with error := !ok, busy := b, phase := p }) :
    ∃ ok u, HandlerOutcome i s ok u t := by
  obtain ⟨ok, u, hemits, he⟩ := he
  cases he.symm.trans h
  refine ⟨ok, u, hemits, congrArg _ (newEvents_congr rfl), rfl, by rw [hmatched, Bool.and_true], ?_⟩
  obtain ⟨answers, -, rfl, -⟩ := hemits
  exact hnumber.symm

/-- Every handler's step has such an outcome, whatever the command. -/
theorem handler_outcome (hf : isCommand (fetch s) = true) (h : exec (fetch s) s = .next t) :
    ∃ ok u, HandlerOutcome (fetch s) s ok u t := by
  obtain ⟨hb, hp⟩ := handler_of_isCommand_fetch hf
  have hfetch := fetch_of_handler hb hp
  obtain ⟨-, hi⟩ | ⟨-, -, hi⟩ | ⟨-, -, -, -, hi⟩ | ⟨-, -, -, -, -, hi⟩ | ⟨-, -, -, hi⟩ :=
    decodeRequest_cases s.cfg s.latch <;> rw [hi] at hfetch <;> rw [hfetch] at h ⊢
  · exact handlerOutcome_of_emits rfl rfl h
      (exec_command_emits hb hp hi (by rw [handlerBody, hi]) (startup_body s))
  · exact handlerOutcome_of_emits rfl rfl h
      (exec_command_emits hb hp hi (by rw [handlerBody, hi]) fun t hc _ => version_body s t hc)
  · exact handlerOutcome_of_emits rfl rfl h
      (exec_command_emits hb hp hi (by rw [handlerBody, hi]) (towerNumber_body s))
  · cases (exec_towerNumberSet hfetch).symm.trans h
    exact ⟨true, s, Emits.nil s, by simp [newEvents, attempts], rfl, rfl, rfl⟩
  · have he := exec_command hb hp hi (by rw [handlerBody, hi])
    rw [handler_unmatched _ s hb] at he
    cases he.symm.trans h
    exact ⟨true, s, Emits.nil s, congrArg _ (newEvents_congr rfl), rfl, rfl, rfl⟩

/-! ### The steps of a `Handle` -/

theorem exec_fetch_keeps_running (hr : Running s) (h : exec (fetch s) s = .next t) : Running t := by
  obtain ⟨hcfg, -, hrst⟩ := exec_fetch_frame h
  obtain ⟨hok, hnil⟩ := hr
  exact ⟨hcfg ▸ hok, hrst.trans hnil⟩

/-- A running machine's operations are its steps. -/
theorem run_one_of_running (hr : Running s) (h : exec (fetch s) s = .next t) : Sys2Proof.core.run 1 s = .next t :=
  run_succ_of_next 0 ((step_of_running hr).trans h)

theorem run_two_of_running (hr : Running s) (h : exec (fetch s) s = .next u) (h' : exec (fetch u) u = .next t) :
    Sys2Proof.core.run 2 s = .next t :=
  (run_add 1 1 (run_one_of_running hr h)).trans (run_one_of_running (exec_fetch_keeps_running hr h) h')

/-- The events of two operations are those of the first and then those of the second. -/
theorem newEvents_two (h : exec (fetch s) s = .next u) (h' : exec (fetch u) u = .next t) :
    newEvents s t = newEvents s u ++ newEvents u t := by
  apply newEvents_of_trace
  rw [exec_fetch_appends_newEvents h', exec_fetch_appends_newEvents h, List.append_assoc]

/-- A request with bit 7 set leads from its handler to its epilogue (R107). -/
theorem handler_leads_to_epilogue (hb : s.busy = true) (hp : s.phase = .handler) (ha : ackBit s.latch.cmd = true)
    (h : exec (fetch s) s = .next u) : u.busy = true ∧ u.phase = .epilogue ∧ u.latch = s.latch := by
  have hl : u.latch = s.latch := by rw [dispatcher_frame hb h]
  cases (exec_fetch_of_handler hb hp).symm.trans h
  rw [ha] at hl ⊢
  exact ⟨(handler_continues hb true).1, rfl, hl⟩

/-- The epilogue attempts the acknowledgment and ends the `Handle` (R107, R108). -/
theorem epilogue_outcome (hb : s.busy = true) (hp : s.phase = .epilogue) (ha : ackBit s.latch.cmd = true)
    (h : exec (fetch s) s = .next t) :
    ∃ ok u, Emits (build (ackCommand s.error (codeField s.latch.cmd)) s.latch.p1 s.latch.p2 s.latch.p3).bytes s ok u
      ∧ t = u.endHandle := by
  rw [fetch_of_epilogue hb hp, exec_ackOf hb hp ha] at h
  cases h
  exact ⟨_, _, send_emits .., rfl⟩

/-- No step of the dispatcher makes more than 15 attempts. -/
theorem dispatcher_attempts_le (hb : s.busy = true) (h : exec (fetch s) s = .next t) :
    (attempts (newEvents s t)).length ≤ 15 := by
  obtain ⟨bytes, ok, u, e, p, b, hemits, hlen, rfl⟩ | ⟨e, p, b, a, p2, p3, -, rfl⟩ := dispatcher_shape hb h
  · exact hemits.length_attempts_le.trans hlen
  · rw [newEvents_of_trace rfl]
    exact Nat.zero_le 15

/-- What is no command leaves `error`: the epilogue discards its result (R107). -/
theorem dispatcher_leaves_error (hb : s.busy = true) (hf : isCommand (fetch s) = false)
    (h : exec (fetch s) s = .next t) : t.error = s.error := by
  obtain ⟨-, hi, -⟩ | ⟨-, -, he⟩ := dispatcher_cases s hb
  · rw [hi, isCommand_decodeRequest] at hf
    cases hf
  · cases he.symm.trans h
    rw [endHandle_error, acknowledge]
    split
    · rw [send, sendBytes_frame]
    · rfl

/-! ### `Handle` as the spec writes it (R100) -/

/-- A handler's body writes Tower Number, the sink, storage and the events, and nothing else. -/
theorem handlerBody_writes (s u : State) :
    (handlerBody s u).2 = { u with
      towerNumber := (handlerBody s u).2.towerNumber, sink := (handlerBody s u).2.sink
      storage := (handlerBody s u).2.storage, trace := (handlerBody s u).2.trace
      draws := (handlerBody s u).2.draws } := by
  obtain ⟨-, h⟩ | ⟨-, -, h⟩ | ⟨-, -, -, -, h⟩ | ⟨-, -, -, -, -, h⟩ | ⟨-, -, -, h⟩ :=
    decodeRequest_cases s.cfg s.latch <;> simp only [handlerBody, h]
  · rw [startup_body u u rfl rfl, sendBytes_frame]
  · rw [version_body u u rfl, sendBytes_frame]
  · rw [towerNumber_body u u rfl rfl, sendBytes_frame]
  · rfl

/-- The five-way select writes what the handler of the decoded command writes, and `error` from its result (R101). -/
theorem handleSelect_eq (s : State) :
    handleSelect s.latch (s.setError true)
      = (handlerBody s (s.setError true)).2.setError (!(handlerBody s (s.setError true)).1) := by
  obtain ⟨hs, h⟩ | ⟨hs, hv, h⟩ | ⟨hs, hv, ht, hg, h⟩ | ⟨hs, hv, ht, hg, hset, h⟩ | ⟨hs, hv, hn, h⟩ :=
    decodeRequest_cases s.cfg s.latch <;> simp only [handlerBody, h, handleSelect]
  · refine (if_pos hs).trans ?_
    by_cases hfirst : (sendStartup (s.setError true)).1 = true
    · simp only [andThen, if_pos hfirst]
      split <;> rfl
    · have hstop : andThen sendStartup sendVersion (s.setError true) = (false, (sendStartup (s.setError true)).2) :=
        if_neg hfirst
      rw [andThen, hstop]
      exact if_neg hfirst
  · exact (if_neg hs).trans (if_pos hv)
  · exact (if_neg hs).trans ((if_neg hv).trans (if_pos ⟨ht, hg⟩))
  · exact (if_neg hs).trans ((if_neg hv).trans ((if_neg fun h => hg h.2).trans (if_pos ⟨ht, hset⟩)))
  · refine (if_neg hs).trans ((if_neg hv).trans ((if_neg fun h => hn ⟨h.1, .inl h.2⟩).trans ?_))
    exact if_neg fun h => hn ⟨h.1, .inr h.2⟩

/-- The acknowledgment part of `Handle`, over the command byte as the epilogue makes it (R107). -/
theorem handleAck_eq {r : Request} (ha : ackBit r.cmd = true) (s : State) :
    handleAck r s = (send (ackCommand s.error (codeField r.cmd)) r.p1 r.p2 r.p3 s).2 := by
  rw [ackCommand_codeField, handleAck]
  refine (if_pos ha).trans ?_
  split <;> rfl

/-- Sending from the epilogue's place and then ending the `Handle` is sending and clearing `busy`. -/
theorem send_toEpilogue_endHandle (c p1 p2 p3 : Byte) (hp : s.phase = .handler) :
    (send c p1 p2 p3 s.toEpilogue).2.endHandle = { (send c p1 p2 p3 s).2 with busy := false } := by
  have hplace := sendBytes_place (build c p1 p2 p3).bytes s s.busy .epilogue
  have hphase : (send c p1 p2 p3 s).2.phase = .handler := by rw [send, sendBytes_frame, hp]
  have hsend : (send c p1 p2 p3 s.toEpilogue).2 = { (send c p1 p2 p3 s).2 with busy := s.busy, phase := .epilogue } :=
    congrArg Prod.snd hplace
  rw [hsend, State.endHandle, ← hphase]

/-- The one or two steps of a `Handle` together are `Handle` (R100). -/
theorem run_handle (hr : Running s) (hb : s.busy = true) (hp : s.phase = .handler) :
    Sys2Proof.core.run (if ackBit s.latch.cmd then 2 else 1) s = .next (handle s.latch s) := by
  have hwrites := handlerBody_writes s (s.setError true)
  have hselect := handleSelect_eq s
  have h : exec (fetch s) s = .next (afterHandler (ackBit s.latch.cmd) (handleSelect s.latch (s.setError true))) := by
    rw [exec_fetch_of_handler hb hp, handler_eq, hselect]
  have hphase : (handleSelect s.latch (s.setError true)).phase = .handler := by
    rw [hselect, setError_phase, hwrites]
    exact hp
  cases ha : ackBit s.latch.cmd with
  | false =>
    have hack : handleAck s.latch (handleSelect s.latch (s.setError true)) = handleSelect s.latch (s.setError true) :=
      if_neg (Bool.eq_false_iff.mp ha)
    rw [if_neg Bool.false_ne_true, run_one_of_running hr h, ha, afterHandler_false, State.endHandle, ← hphase]
    exact congrArg (fun x : State => Host.Outcome.next { x with busy := false }) hack.symm
  | true =>
    obtain ⟨hbusy, hepilogue, hlatch⟩ := handler_leads_to_epilogue hb hp ha h
    have h' := exec_ackOf hbusy hepilogue (by rw [hlatch]; exact ha)
    rw [← fetch_of_epilogue hbusy hepilogue] at h'
    rw [if_pos rfl, run_two_of_running hr h h', hlatch, ha, afterHandler_true,
      send_toEpilogue_endHandle _ _ _ _ hphase, toEpilogue_error, ← handleAck_eq ha]
    rfl

end

end Sys2Proof.Machine

namespace Sys2Proof
open Machine

/-- Settles O45, by the dispatcher's frame and events; a step that is no command is the epilogue, which only sends. -/
theorem dispatcherFrame : Obligations.DispatcherFrame := by
  intro s t hb h
  have hframe := dispatcher_frame hb h
  obtain ⟨hrx, hpos, hbuf, htaken⟩ := dispatcher_leaves_framer hb h
  obtain ⟨hcfg, hmode, hrst⟩ := exec_fetch_frame h
  refine ⟨hpos, hbuf, by rw [hframe], hmode, hcfg, hrx, hrst, htaken, dispatcher_delivers_nothing hb h, fun hset => ?_,
    fun hf => dispatcher_leaves_error hb hf h⟩
  obtain ⟨bytes, ok, u, hemits, hn, hnumber, hstorage⟩ | ⟨a, p2, p3, hf, -⟩ := dispatcher_events hb h
  · obtain ⟨-, -, hstores, -⟩ := hemits.quiet
    exact ⟨hnumber, hstorage, hn ▸ hstores⟩
  · exact absurd hf (hset a p2 p3)

/-- Settles O46: the handler's body is the select of the spec and the epilogue its acknowledgment; only COMPLETE sets `busy`;
and outside a `Handle` nothing is attempted. -/
theorem handleMatchesPseudocode : Obligations.HandleMatchesPseudocode := by
  refine ⟨fun s hr hb hp => run_handle hr hb hp, fun s t h hb ht => ?_, fun s t h hb => step_attempts_nothing hb h⟩
  obtain he | rfl | ⟨k, u, -, rfl⟩ := step_popRst_cases h
  · have hb' : s.popRst.busy = false := hb
    obtain ⟨hp, p, hdel, hl⟩ := framer_begins hb' he ht
    rw [← newEvents_base (s := s) (s' := s.popRst) rfl] at hdel
    have hmem : p ∈ delivered (newEvents s t) := hdel ▸ List.mem_singleton_self p
    exact ⟨(framer_busy_iff hb' he).mp ht, hp, p, hdel, step_delivers_valid h hmem, hl⟩
  · cases ht
  · cases ht

/-- Settles O47: a step that ends the `Handle` makes at most 15 attempts; one that does not is a handler's, and the
acknowledgment after it makes at most 5. -/
theorem handleEnds : Obligations.HandleEnds := by
  intro s hr hb
  obtain ⟨u, h⟩ := exec_fetch_answers s
  obtain ⟨hrx, hpos, hbuf, -⟩ := dispatcher_leaves_framer hb h
  have hlen := dispatcher_attempts_le hb h
  by_cases hends : s.phase = .epilogue ∨ ackBit s.latch.cmd = false
  · exact ⟨1, by decide, u, run_one_of_running hr h, (dispatcher_ends_iff hb h).mpr hends, by omega, hpos, hbuf, hrx⟩
  · rw [not_or, Bool.not_eq_false] at hends
    obtain ⟨hnot, ha⟩ := hends
    have hp : s.phase = .handler := by
      cases hphase : s.phase with
      | handler => rfl
      | epilogue => exact absurd hphase hnot
    obtain ⟨hbusy, hepilogue, hlatch⟩ := handler_leads_to_epilogue hb hp ha h
    obtain ⟨t, h'⟩ := exec_fetch_answers u
    obtain ⟨hrx', hpos', hbuf', -⟩ := dispatcher_leaves_framer hbusy h'
    obtain ⟨ok, v, hemits, rfl⟩ := epilogue_outcome hbusy hepilogue (hlatch ▸ ha) h'
    have hlen' : (attempts (newEvents u v)).length ≤ 5 := hemits.length_attempts_le
    refine ⟨2, le_rfl, _, run_two_of_running hr h h', rfl, ?_, hpos'.trans hpos, hbuf'.trans hbuf, hrx'.trans hrx⟩
    rw [newEvents_two h h', attempts_append, List.length_append]
    exact Nat.add_le_add hlen hlen'

/-- Settles O49: only a handler's outcome writes `error`, from its result, which tells whether all attempts were accepted. -/
theorem errorFlagTellsEmissions : Obligations.ErrorFlagTellsEmissions := by
  intro s t hr h
  rw [step_of_running hr] at h
  refine ⟨fun hf => ?_, fun hf => ?_⟩
  · cases hb : s.busy with
    | false => rw [framer_frame hb h]
    | true => exact dispatcher_leaves_error hb hf h
  · obtain ⟨ok, u, hout⟩ := handler_outcome hf h
    rw [hout.error, hout.attempts, ← hout.emits.ok_iff, ← isMatched_iff, Bool.not_eq_false', Bool.and_eq_true, and_comm]

/-- The acknowledgment's command byte for a request that asked for one: positive, the request's own (R107). -/
theorem ackCommand_not {cmd : Byte} (ha : ackBit cmd = true) (ok : Bool) :
    ackCommand (!ok) (codeField cmd) = if ok then cmd else codeOf cmd := by
  rw [ackCommand_codeField]
  cases ok with
  | false => rfl
  | true => exact codeOf_or_ackMask ha

/-- What `Handle` sends and leaves when the sink accepts everything (R107, 42_dispatcher.md section 5): the command's response,
then the request's own bytes or, when it is unmatched, those with bit 7 clear. -/
theorem outcome_when_accepted (s : State) (r : List Bool) (hr : Running s) (hb : s.busy = true) (hp : s.phase = .handler)
    (hsink : s.sink = List.replicate 20 true ++ r) :
    ∃ t, Sys2Proof.core.run (if ackBit s.latch.cmd then 2 else 1) s = .next t
      ∧ t.busy = false
      ∧ attempts (newEvents s t) = (response s.cfg s.towerNumber (fetch s)
          ++ if ackBit s.latch.cmd then
            (build (if isMatched (fetch s) then s.latch.cmd else codeOf s.latch.cmd) s.latch.p1 s.latch.p2 s.latch.p3).bytes
          else []).map (fun b => (b, true))
      ∧ t.towerNumber = numberAfter s.towerNumber (fetch s) := by
  have hcommand : isCommand (fetch s) = true := by rw [fetch_of_handler hb hp, isCommand_decodeRequest]
  obtain ⟨u, h⟩ := exec_fetch_answers s
  obtain ⟨ok, v, hout⟩ := handler_outcome hcommand h
  have hlen := length_response_le s.cfg s.towerNumber (fetch s)
  obtain ⟨rfl, hatt, hrest⟩ := hout.emits.of_accepting hsink (by omega)
  have herror := hout.error
  cases ha : ackBit s.latch.cmd with
  | false =>
    refine ⟨u, run_one_of_running hr h, (dispatcher_ends_iff hb h).mpr (.inr ha), ?_, hout.number⟩
    rw [hout.attempts, hatt, if_neg Bool.false_ne_true, List.append_nil]
  | true =>
    obtain ⟨hbusy, hepilogue, hlatch⟩ := handler_leads_to_epilogue hb hp ha h
    obtain ⟨t, h'⟩ := exec_fetch_answers u
    obtain ⟨ok, w, hemits, rfl⟩ := epilogue_outcome hbusy hepilogue (hlatch ▸ ha) h'
    have hnumber : w.towerNumber = u.towerNumber := by obtain ⟨answers, -, rfl, -⟩ := hemits; rfl
    rw [herror, Bool.true_and, hlatch, ackCommand_not ha] at hemits
    obtain ⟨-, hatt', -⟩ := hemits.of_accepting (hout.sink.trans hrest) (by simp [Packet.bytes]; omega)
    refine ⟨_, run_two_of_running hr h h', rfl, ?_, hnumber.trans hout.number⟩
    rw [newEvents_two h h', attempts_append, hout.attempts, hatt, if_pos rfl, List.map_append, ← hatt']
    rfl
/-- Settles O48: all that is attempted is accepted, and the table's rows are the commands' responses. -/
theorem outcomesWhenSinkAccepts : Obligations.OutcomesWhenSinkAccepts := by
  intro s r hr hb hp hsink
  obtain ⟨t, hrun, hbusy, hatt, hnumber⟩ := outcome_when_accepted s r hr hb hp hsink
  obtain ⟨haccepted, hbytes⟩ := accepted_of_attempts hatt
  refine ⟨t, hrun, hbusy, haccepted.trans hbytes.symm, haccepted.trans ?_, hnumber.trans ?_⟩
  all_goals
    rw [fetch_of_handler hb hp]
    obtain ⟨-, hi⟩ | ⟨-, -, hi⟩ | ⟨-, -, -, -, hi⟩ | ⟨-, -, -, -, -, hi⟩ | ⟨-, -, -, hi⟩ :=
      decodeRequest_cases s.cfg s.latch <;> rw [hi] <;> rfl

end Sys2Proof
end

section
/-!
Rules of the whole machine (10_state.md section 3, 20_memory.md section 6): who writes Tower Number and what a later GET or
reset sees of it, what passes through Tower Mode, the latched packet and `error`, and the signals of a step.
-/
namespace Sys2Proof.Machine

section
variable {s t : State}

/-! ### Tower Mode and the latched packet pass through -/

/-- `s` with other contents in the two registers that no `Send` reads. -/
def relabel (v : Word16) (l : Request) (s : State) : State := { s with towerMode := v, latch := l }

section
variable (v : Word16) (l : Request)

theorem sendBytes_relabel (bs : List Byte) (s : State) :
    sendBytes bs (relabel v l s) = ((sendBytes bs s).1, relabel v l (sendBytes bs s).2) := by
  induction bs generalizing s with
  | nil => rfl
  | cons b bs ih =>
    have hfirst : txTry b (relabel v l s) = ((txTry b s).1, relabel v l (txTry b s).2) := rfl
    simp only [sendBytes, hfirst, ih]
    split <;> rfl

theorem handlerBody_relabel (w s : State) :
    handlerBody w (relabel v l s) = ((handlerBody w s).1, relabel v l (handlerBody w s).2) := by
  obtain ⟨-, h⟩ | ⟨-, -, h⟩ | ⟨-, -, -, -, h⟩ | ⟨-, -, -, -, -, h⟩ | ⟨-, -, -, h⟩ :=
    decodeRequest_cases w.cfg w.latch <;> simp only [handlerBody, h]
  · rw [startup_body s (relabel v l s) rfl rfl, sendBytes_relabel, ← startup_body s s rfl rfl]
  · rw [version_body s (relabel v l s) rfl, sendBytes_relabel, ← version_body s s rfl]
  · rw [towerNumber_body s (relabel v l s) rfl rfl, sendBytes_relabel, ← towerNumber_body s s rfl rfl]
  · rfl

/-- A handler does the same whatever the two registers hold, once the command is decoded. -/
theorem handler_relabel (ack : Bool) (w s : State) :
    handler ack (handlerBody w) (relabel v l s) = relabel v l (handler ack (handlerBody w) s) := by
  have hstart : (relabel v l s).setError true = relabel v l (s.setError true) := rfl
  rw [handler_eq, hstart, handlerBody_relabel, handler_eq]
  cases ack <;> rfl

end

/-- A framer operation whose body passes Tower Mode through does so as a whole: neither its guard nor the poll reads it. -/
theorem pollOp_towerMode {i : Instr} {f : Byte → State → State} (v : Word16)
    (hf : ∀ b u, f b { u with towerMode := v } = { f b u with towerMode := v })
    (h : pollOp i (onPoll f) s = .next t) :
    pollOp i (onPoll f) { s with towerMode := v } = .next { t with towerMode := v } := by
  obtain ⟨hb, hsel, rfl⟩ := pollOp_next h
  have hrun : pollOp i (onPoll f) { s with towerMode := v } = .next (onPoll f { s with towerMode := v }) :=
    (if_neg (by simp [hb])).trans (if_pos hsel)
  rw [hrun]
  cases hp : s.rxPeek with
  | none =>
    rw [onPoll_none f hp, onPoll_none (s := { s with towerMode := v }) f hp]
    rfl
  | some b =>
    rw [onPoll_some f hp, onPoll_some (s := { s with towerMode := v }) f hp, ← hf]
    rfl

/-- The framer does not read Tower Mode. -/
theorem framer_towerMode {i : Instr} (v : Word16) (hi : isFramerOp i = true) (h : exec i s = .next t) :
    exec i { s with towerMode := v } = .next { t with towerMode := v } := by
  match i, hi with
  | .idle, _ | .store, _ | .complete, _ | .resync, _ | .defensive5, _ | .defensive67, _ =>
    exact pollOp_towerMode v (fun _ _ => rfl) h

/-- The epilogue does not read Tower Mode. -/
theorem acknowledge_relabel (v : Word16) (code : BitVec 7) (p1 p2 p3 : Byte) (s : State) :
    acknowledge code p1 p2 p3 (relabel v s.latch s) = relabel v s.latch (acknowledge code p1 p2 p3 s) := by
  have hsend := congrArg Prod.snd (sendBytes_relabel v s.latch (build (ackCommand s.error code) p1 p2 p3).bytes s)
  by_cases ha : ackBit s.latch.cmd = true
  · exact (if_pos ha).trans (hsend.trans (congrArg (relabel v s.latch) (if_pos ha).symm))
  · exact (if_neg ha).trans (congrArg (relabel v s.latch) (if_neg ha).symm)

/-- Nor does any step of the dispatcher. -/
theorem dispatcher_towerMode (v : Word16) (hb : s.busy = true) (h : exec (fetch s) s = .next t) :
    exec (fetch s) { s with towerMode := v } = .next { t with towerMode := v } := by
  have hl : t.latch = s.latch := by rw [dispatcher_frame hb h]
  have ht : { t with towerMode := v } = relabel v s.latch t := by rw [relabel, ← hl]
  have hb' : (relabel v s.latch s).busy = true := hb
  rw [ht]
  obtain ⟨hp, -, he⟩ | ⟨hp, -, he⟩ := dispatcher_cases s hb <;> cases he.symm.trans h
  · exact (exec_fetch_of_handler hb' hp).trans (congrArg _ (handler_relabel v s.latch _ s s))
  · obtain ⟨hp', -⟩ | ⟨-, -, he'⟩ := dispatcher_cases _ hb'
    · cases hp.symm.trans hp'
    · exact he'.trans (congrArg (fun x => Host.Outcome.next (State.endHandle x)) (acknowledge_relabel v _ _ _ _ s))

/-- The selected operation does the same whatever Tower Mode is. -/
theorem exec_fetch_towerMode (v : Word16) (h : exec (fetch s) s = .next t) :
    exec (fetch s) { s with towerMode := v } = .next { t with towerMode := v } := by
  obtain hb | hb := Bool.eq_false_or_eq_true s.busy
  · exact dispatcher_towerMode v hb h
  · exact framer_towerMode v (isFramerOp_fetch_of_not_busy hb) h

/-! ### Stores -/

/-- The only register stored is Tower Number (90_conflicts.md C2). -/
theorem exec_fetch_stores (h : exec (fetch s) s = .next t) : ∀ x ∈ stores (newEvents s t), x.1 = .towerNumber := by
  cases hb : s.busy with
  | false => simp [framer_stores_nothing hb h]
  | true =>
    obtain ⟨bytes, ok, u, hemits, hn, -⟩ | ⟨a, p2, p3, -, hn, -⟩ := dispatcher_events hb h
    · obtain ⟨-, -, hstores, -⟩ := hemits.quiet
      simp [hn, hstores]
    · simp [hn, stores]

theorem step_stores (h : step s = .next t) : ∀ x ∈ stores (newEvents s t), x.1 = .towerNumber := by
  rw [newEvents_base (s := s) (s' := s.popRst) rfl]
  obtain he | rfl | ⟨k, u, he, rfl⟩ := step_popRst_cases h
  · exact exec_fetch_stores he
  · simp [newEvents_applyReset, stores]
  · obtain ⟨hstores, -⟩ := keepAttempts_newEvents k he
    rw [newEvents_cutAt, stores_append, hstores]
    simpa [stores] using exec_fetch_stores he

/-! ### When each kind of event comes (R153) -/

/-- A byte is taken whenever one is available outside a `Handle`. -/
theorem exec_fetch_taken_iff (h : exec (fetch s) s = .next t) :
    takenBytes (newEvents s t) ≠ [] ↔ s.rxTake = true := by
  cases hb : s.busy with
  | false =>
    obtain ⟨hp, -, he⟩ | ⟨b, hp, -⟩ := framer_cases s hb
    · cases he.symm.trans h
      simp [State.rxTake, hp, newEvents, takenBytes]
    · obtain ⟨-, ⟨hf, -⟩ | ⟨b', -, ⟨-, hn⟩ | ⟨-, hn⟩ | ⟨-, hn⟩ | ⟨-, hn⟩⟩⟩ := framer_events hb h
      · have hidle := (selectorTable.1 s hb).1.mp hf
        cases hp.symm.trans hidle
      all_goals simp [State.rxTake, hp, hb, hn, takenBytes]
  | true =>
    obtain ⟨-, -, -, htaken⟩ := dispatcher_leaves_framer hb h
    simp [State.rxTake, hb, htaken]

/-- A packet is delivered by COMPLETE only. -/
theorem exec_fetch_delivered_iff (h : exec (fetch s) s = .next t) :
    delivered (newEvents s t) ≠ [] ↔ fetch s = .complete := by
  cases hb : s.busy with
  | false =>
    obtain ⟨-, ⟨hf, hn⟩ | ⟨b, -, ⟨hf, hn⟩ | ⟨hf, hn⟩ | ⟨hf, hn⟩ | ⟨hf | hf, hn⟩⟩⟩ := framer_events hb h <;>
      simp [hf, hn, delivered]
  | true =>
    have hf : fetch s ≠ .complete := fun hc => by simpa [hc, isFramerOp] using isFramerOp_fetch_of_busy hb
    simp [dispatcher_delivers_nothing hb h, hf]

/-- A word is stored by SET only, and by every SET. -/
theorem exec_fetch_stores_iff (h : exec (fetch s) s = .next t) :
    stores (newEvents s t) ≠ [] ↔ ∃ a p2 p3, fetch s = .towerNumberSet a p2 p3 := by
  constructor
  · intro hne
    cases hb : s.busy with
    | false => exact absurd (framer_stores_nothing hb h) hne
    | true =>
      obtain ⟨bytes, ok, u, hemits, hn, -⟩ | ⟨a, p2, p3, hf, -⟩ := dispatcher_events hb h
      · obtain ⟨-, -, hstores, -⟩ := hemits.quiet
        exact absurd (hn ▸ hstores) hne
      · exact ⟨a, p2, p3, hf⟩
  · rintro ⟨a, p2, p3, hf⟩
    rw [hf, exec_towerNumberSet hf] at h
    cases h
    simp [newEvents, stores]

/-! ### COMPLETE and `error` -/

/-- COMPLETE, wherever it is fetched (R73). -/
theorem exec_complete (hb : s.busy = false) (hf : fetch s = .complete) :
    ∃ b, s.rxPeek = some b ∧ exec (fetch s) s
      = .next (deliver (s.buf.packet b) ((s.popRx.emit (.taken b)).setFramer 0#3 (s.buf.put 4#3 b))) := by
  obtain ⟨-, hi, -⟩ | ⟨b, hp, ⟨-, hi, -⟩ | ⟨-, -, -, he⟩ | ⟨-, -, hi, -⟩ | ⟨-, ⟨-, hi⟩ | ⟨-, hi⟩, -⟩⟩ :=
    framer_cases s hb
  case inr.inr.inl => exact ⟨b, hp, he⟩
  all_goals cases hi.symm.trans hf

/-- A handler does not see what `error` was: it sets it first (R101). -/
theorem step_handler_setError (e : Bool) (hr : Running s) (hb : s.busy = true) (hp : s.phase = .handler) :
    step (s.setError e) = step s := by
  have hr' : Running (s.setError e) := hr
  rw [step_of_running hr, step_of_running hr', exec_fetch_of_handler hb hp,
    exec_fetch_of_handler (s := s.setError e) hb hp]
  rfl

/-! ### The parameters a handler ignores (R57) -/

/-- Two requests with the same command byte whose commands have the same body do the same, whatever else they hold. -/
theorem exec_latch_congr {l : Request} (hb : s.busy = true) (hp : s.phase = .handler) (hcmd : l.cmd = s.latch.cmd)
    (hbody : handlerBody { s with latch := l } = handlerBody s) (h : exec (fetch s) s = .next t) :
    exec (fetch { s with latch := l }) { s with latch := l } = .next (relabel s.towerMode l t) := by
  cases (exec_fetch_of_handler hb hp).symm.trans h
  rw [exec_fetch_of_handler (s := { s with latch := l }) hb hp, hbody, hcmd]
  exact congrArg _ (handler_relabel s.towerMode l _ s s)

/-- The body of a handler is the same for requests that differ in ignored parameters only (R57). -/
theorem handlerBody_ignores {q1 q2 q3 : Byte} (hok : s.cfg.ok = true)
    (hignored : codeOf s.latch.cmd = s.cfg.cmdStartup ∨ codeOf s.latch.cmd = s.cfg.cmdVersion
      ∨ codeOf s.latch.cmd = s.cfg.cmdTowerNumber ∧ s.latch.p1 = s.cfg.subGet ∧ q1 = s.cfg.subGet) :
    handlerBody { s with latch := ⟨s.latch.cmd, q1, q2, q3⟩ } = handlerBody s := by
  obtain hc | hc | ⟨hc, hget, hget'⟩ := hignored
  · simp only [handlerBody, (decodeRequest_eq_getStartup_iff s.latch).mpr hc,
      (decodeRequest_eq_getStartup_iff ⟨s.latch.cmd, q1, q2, q3⟩).mpr hc]
  · simp only [handlerBody, (decodeRequest_eq_getVersion_iff s.latch hok).mpr hc,
      (decodeRequest_eq_getVersion_iff ⟨s.latch.cmd, q1, q2, q3⟩ hok).mpr hc]
  · simp only [handlerBody, (decodeRequest_eq_towerNumberGet_iff s.latch hok).mpr ⟨hc, hget⟩,
      (decodeRequest_eq_towerNumberGet_iff ⟨s.latch.cmd, q1, q2, q3⟩ hok).mpr ⟨hc, hget'⟩]

end

end Sys2Proof.Machine

namespace Sys2Proof
open Machine

/-- Settles O51: of the operations only SET's writes the register. -/
theorem onlySetWritesTowerNumber : Obligations.OnlySetWritesTowerNumber := by
  intro s t hr h hne
  rw [step_of_running hr] at h
  cases hb : s.busy with
  | false => exact absurd (by rw [framer_frame hb h]) hne
  | true =>
    obtain ⟨bytes, ok, u, -, -, hkept, -⟩ | ⟨a, p2, p3, hf, -, hnumber, -⟩ := dispatcher_events hb h
    · exact absurd hkept hne
    · exact ⟨a, p2, p3, hf, hnumber⟩

/-- Settles O52: Tower Mode is in the frame of every operation, is never stored, and passes through each. -/
theorem towerModeNeverWrittenNorRead : Obligations.TowerModeNeverWrittenNorRead := by
  refine ⟨fun s t hr h => ?_, fun s t => step_stores, fun s t v hr h => ?_⟩
  · rw [step_of_running hr] at h
    obtain ⟨-, hmode, -⟩ := exec_fetch_frame h
    exact hmode
  · rw [step_of_running hr] at h
    exact (step_of_running (s := { s with towerMode := v }) hr).trans (exec_fetch_towerMode (s := s) v h)

/-- Settles O54: after COMPLETE the two states differ in `error` at most, which the handler sets first. -/
theorem dispatcherIsStateless : Obligations.DispatcherIsStateless := by
  intro s t t' e l p hr hb hf h h'
  have hr' : Running { s with error := e, latch := l, phase := p } := hr
  have hfetch : fetch { s with error := e, latch := l, phase := p } = .complete := by
    rw [← hf, fetch, fetch, if_pos hb, if_pos hb]
    rfl
  have hrt := exec_fetch_keeps_running hr ((step_of_running hr).symm.trans h)
  obtain ⟨b, hpeek, he⟩ := exec_complete hb hf
  obtain ⟨b', hpeek', he'⟩ := exec_complete (s := { s with error := e, latch := l, phase := p }) hb hfetch
  cases hpeek.symm.trans hpeek'
  rw [step_of_running hr, he] at h
  rw [step_of_running hr', he'] at h'
  cases h
  cases h'
  exact (step_handler_setError e hrt rfl rfl).symm

/-- Settles O55: the two requests have the same handler body, and the latched packet passes through it. -/
theorem ignoredParametersDoNotMatter : Obligations.IgnoredParametersDoNotMatter := by
  intro s t t' q1 q2 q3 hr hb hp hignored h h'
  have hr' : Running { s with latch := ⟨s.latch.cmd, q1, q2, q3⟩ } := hr
  rw [step_of_running hr] at h
  have he := exec_latch_congr (l := ⟨s.latch.cmd, q1, q2, q3⟩) hb hp rfl (handlerBody_ignores hr.1 hignored) h
  cases he.symm.trans ((step_of_running hr').symm.trans h')
  exact ⟨rfl, rfl⟩

/-- Settles O56: the register holds the SET's two bytes, and the GET's handler sends the register's. -/
theorem setThenGetReportsIt : Obligations.SetThenGetReportsIt := by
  rintro s t u v a p2 p3 hr hb hset h hnumber hcfg hrst hbu ⟨a', q2, q3, hget⟩ hv
  rw [step_of_running hr, hset, exec_towerNumberSet hset] at h
  cases h
  have hru : Running u := ⟨by rw [hcfg]; exact hr.1, hrst⟩
  rw [step_of_running hru] at hv
  obtain ⟨-, hp, hi⟩ := decodeRequest_of_fetch rfl hget
  obtain ⟨ok, w, hemits, he⟩ := exec_command_emits hbu hp hi (by rw [handlerBody, hi]) (towerNumber_body u)
  rw [hget, he] at hv
  cases hv
  rw [hnumber, hcfg, BitVec.extractLsb'_append_eq_right, BitVec.extractLsb'_append_eq_left] at hemits
  exact ⟨ok, w, hemits, newEvents_congr rfl⟩

/-- Settles O57: SET writes the stored word with the register, and `Reset` loads the stored word where there is one. -/
theorem storedNumberSurvivesReset : Obligations.StoredNumberSurvivesReset := by
  intro s t u a p2 p3 r hok hb hset hrst h h'
  have hcfg := step_keeps_cfg h
  rw [step_of_low hok hrst, hset, exec_towerNumberSet (s := s.popRst) hset] at h
  have ht := Host.Outcome.next.inj h
  have hrst' : t.rst = .high :: r := by
    rw [← ht]
    exact congrArg List.tail hrst
  have hstorage : t.storage = s.storage.map fun w => { w with towerNumber := p3 ++ p2 } := by
    rw [← ht]
    rfl
  rw [step_of_high (hcfg ▸ hok) hrst'] at h'
  cases h'
  refine ⟨fun hsome => ?_, fun hnone => ?_⟩
  · obtain ⟨w, hw⟩ := Option.isSome_iff_exists.mp hsome
    simp [resetTowerNumber, hstorage, hw]
  · simp [resetTowerNumber, hstorage, hnone, hcfg]

/-- Settles O60: each signal tells of one kind of event, and each kind comes with its own operation. -/
theorem signalsFollowTheStep : Obligations.SignalsFollowTheStep := by
  intro s t hr h
  rw [step_of_running hr] at h
  refine ⟨(exec_fetch_taken_iff h).symm, ?_, ?_, ?_, fun hne => ?_⟩
  · rw [← exec_fetch_delivered_iff h]
    exact List.isSome_head?
  · rw [← exec_fetch_stores_iff h, signals, Option.isSome_map]
    exact List.isSome_head?
  · rw [← exec_fetch_posFault_iff h]
    exact List.contains_iff_mem
  · rw [← Bool.not_eq_false]
    exact fun hb => hne (framer_attempts_nothing hb h)

end Sys2Proof
end
